-- ==== Sys2Proof/Word.lean ====
section
/-! DEFINITION. The two word types of the hardware: every general register and data byte is 8 bits, PC, SP and
addresses are 16 bits (rule R5). Arithmetic on them wraps modulo 2^8 and 2^16, which is `BitVec` arithmetic (R8). -/

namespace Sys2Proof

/-- A `u8` (R5, R8). -/
abbrev Byte := BitVec 8

/-- A `u16`: a register pair, PC, SP or an address (R5, R8). -/
abbrev Word := BitVec 16

end Sys2Proof
end

