-- ==== Sys2Proof/Syntax.lean ====
section
/-! DEFINITION. The syntax of the instruction set: operand names (R13, R20, R23), the implemented forms (R73), the
fault kinds (R232), the 256 instructions of the opcode table (R75), and an instruction with its immediate bytes (R70). -/

namespace Sys2Proof

/-- The eight byte registers (R20). -/
inductive Reg where
  | A
  | B
  | C
  | D
  | E
  | H
  | L
  | F
  deriving DecidableEq, Repr

/-- The four 16-bit views (R23). -/
inductive Pair where
  | BC
  | DE
  | HL
  | AF
  deriving DecidableEq, Repr

/-- The pairs of LD rr,nn and of POP apart from AF (R72, R130, R151). -/
inductive MainPair where
  | BC
  | DE
  | HL
  deriving DecidableEq, Repr

/-- The seven operand registers; F is never one (R13, R71). -/
inductive Opnd where
  | B
  | C
  | D
  | E
  | H
  | L
  | A
  deriving DecidableEq, Repr

/-- The implemented ALU operations (R73). -/
inductive AluOp where
  | add
  | adc
  | sub
  | and
  | xor
  | or
  deriving DecidableEq, Repr

/-- The three operand sources of an ALU instruction (R160). -/
inductive AluSrc where
  | reg (o : Opnd)
  | atHL
  | imm
  deriving DecidableEq, Repr

/-- The two kinds of fatal opcode (R232). -/
inductive FaultKind where
  | unimplemented
  | unknown
  deriving DecidableEq, Repr

/-- The implemented instruction forms, the rows of R73 with their field operands. -/
inductive Form where
  | ldRegReg (d r : Opnd)
  | ldRegImm (d : Opnd)
  | ldRegAtHL (d : Opnd)
  | ldAtHLReg (r : Opnd)
  | ldAtHLImm
  | ldAAtBC
  | ldAAtDE
  | ldAtBCA
  | ldAtDEA
  | ldAAbs
  | ldAbsA
  | ldAHighC
  | ldHighCA
  | ldiAtHLA
  | ldiAAtHL
  | lddAtHLA
  | lddAAtHL
  | ldhAtNA
  | ldhAAtN
  | ldPairImm (p : MainPair)
  | ldSpImm
  | ldSpHL
  | ldAbsSp
  | ldhlSp
  | push (p : Pair)
  | pop (p : MainPair)
  | popAF
  | alu (op : AluOp) (src : AluSrc)
  | nop
  | halt
  | di
  | ei
  deriving DecidableEq, Repr

/-- An entry of the dispatcher's table: an implemented operation, or `Fatal(kind)` with the byte (R210, R212). -/
inductive Entry where
  | impl (f : Form)
  | fatal (kind : FaultKind) (opcode : Byte)
  deriving DecidableEq, Repr

/-- One constructor per row of spec/opcode_table.json, in opcode order (R75, R212): the opcode byte alone selects the
operation, and the operation reads its own immediates from the bus (R211, R213; log 8). -/
inductive Instr where
  | nop
  | ldBC_nn
  | ldAtBC_A
  | incBC
  | incB
  | decB
  | ldB_n
  | rlca
  | ldAtNN_SP
  | addHL_BC
  | ldA_atBC
  | decBC
  | incC
  | decC
  | ldC_n
  | rrca
  | stop
  | ldDE_nn
  | ldAtDE_A
  | incDE
  | incD
  | decD
  | ldD_n
  | rla
  | jrE
  | addHL_DE
  | ldA_atDE
  | decDE
  | incE
  | decE
  | ldE_n
  | rra
  | jrNZ_e
  | ldHL_nn
  | ldiAtHL_A
  | incHL
  | incH
  | decH
  | ldH_n
  | daa
  | jrZ_e
  | addHL_HL
  | ldiA_atHL
  | decHL
  | incL
  | decL
  | ldL_n
  | cpl
  | jrNC_e
  | ldSP_nn
  | lddAtHL_A
  | incSP
  | incAtHL
  | decAtHL
  | ldAtHL_n
  | scf
  | jrC_e
  | addHL_SP
  | lddA_atHL
  | decSP
  | incA
  | decA
  | ldA_n
  | ccf
  | ldB_B
  | ldB_C
  | ldB_D
  | ldB_E
  | ldB_H
  | ldB_L
  | ldB_atHL
  | ldB_A
  | ldC_B
  | ldC_C
  | ldC_D
  | ldC_E
  | ldC_H
  | ldC_L
  | ldC_atHL
  | ldC_A
  | ldD_B
  | ldD_C
  | ldD_D
  | ldD_E
  | ldD_H
  | ldD_L
  | ldD_atHL
  | ldD_A
  | ldE_B
  | ldE_C
  | ldE_D
  | ldE_E
  | ldE_H
  | ldE_L
  | ldE_atHL
  | ldE_A
  | ldH_B
  | ldH_C
  | ldH_D
  | ldH_E
  | ldH_H
  | ldH_L
  | ldH_atHL
  | ldH_A
  | ldL_B
  | ldL_C
  | ldL_D
  | ldL_E
  | ldL_H
  | ldL_L
  | ldL_atHL
  | ldL_A
  | ldAtHL_B
  | ldAtHL_C
  | ldAtHL_D
  | ldAtHL_E
  | ldAtHL_H
  | ldAtHL_L
  | halt
  | ldAtHL_A
  | ldA_B
  | ldA_C
  | ldA_D
  | ldA_E
  | ldA_H
  | ldA_L
  | ldA_atHL
  | ldA_A
  | addA_B
  | addA_C
  | addA_D
  | addA_E
  | addA_H
  | addA_L
  | addA_atHL
  | addA_A
  | adcA_B
  | adcA_C
  | adcA_D
  | adcA_E
  | adcA_H
  | adcA_L
  | adcA_atHL
  | adcA_A
  | subA_B
  | subA_C
  | subA_D
  | subA_E
  | subA_H
  | subA_L
  | subA_atHL
  | subA_A
  | sbcA_B
  | sbcA_C
  | sbcA_D
  | sbcA_E
  | sbcA_H
  | sbcA_L
  | sbcA_atHL
  | sbcA_A
  | andA_B
  | andA_C
  | andA_D
  | andA_E
  | andA_H
  | andA_L
  | andA_atHL
  | andA_A
  | xorA_B
  | xorA_C
  | xorA_D
  | xorA_E
  | xorA_H
  | xorA_L
  | xorA_atHL
  | xorA_A
  | orA_B
  | orA_C
  | orA_D
  | orA_E
  | orA_H
  | orA_L
  | orA_atHL
  | orA_A
  | cpB
  | cpC
  | cpD
  | cpE
  | cpH
  | cpL
  | cpAtHL
  | cpA
  | retNZ
  | popBC
  | jpNZ_nn
  | jpNN
  | callNZ_nn
  | pushBC
  | addA_n
  | rst00H
  | retZ
  | ret
  | jpZ_nn
  | cbPrefix
  | callZ_nn
  | callNN
  | adcA_n
  | rst08H
  | retNC
  | popDE
  | jpNC_nn
  | noneD3
  | callNC_nn
  | pushDE
  | subA_n
  | rst10H
  | retC
  | reti
  | jpC_nn
  | noneDB
  | callC_nn
  | noneDD
  | sbcA_n
  | rst18H
  | ldhAtN_A
  | popHL
  | ldAtHighC_A
  | noneE3
  | noneE4
  | pushHL
  | andA_n
  | rst20H
  | addSP_e
  | jpAtHL
  | ldAtNN_A
  | noneEB
  | noneEC
  | noneED
  | xorA_n
  | rst28H
  | ldhA_atN
  | popAF
  | ldA_atHighC
  | di
  | noneF4
  | pushAF
  | orA_n
  | rst30H
  | ldhlSP_n
  | ldSP_HL
  | ldA_atNN
  | ei
  | noneFC
  | noneFD
  | cpN
  | rst38H
  deriving DecidableEq, Repr

/-- An instruction as it stands in memory: the operation its opcode selects and its immediate bytes, byte 1 first
(R70). -/
structure Code where
  instr : Instr
  imm : List Byte
  deriving DecidableEq, Repr

end Sys2Proof
end

