-- ==== Sys2Proof/Decode.lean ====
section
/-! DEFINITION. Decoding, total on any bytes and refusing by name (R75, R78, R212), and the encoder from the bit
patterns (R71-R73). The decoder reads the 256-entry map; the encoder uses the patterns and the list of fatal bytes. -/

namespace Sys2Proof

/-! ### Field codes and bit patterns -/

/-- The 3-bit register field code (R71); code 110 is (HL). -/
def opndCode (o : Opnd) : Byte :=
  match o with
  | .B => 0b000#8
  | .C => 0b001#8
  | .D => 0b010#8
  | .E => 0b011#8
  | .H => 0b100#8
  | .L => 0b101#8
  | .A => 0b111#8

/-- The 2-bit pair field code of LD rr,nn and POP (R72). -/
def mainPairCode (p : MainPair) : Byte :=
  match p with
  | .BC => 0b00#8
  | .DE => 0b01#8
  | .HL => 0b10#8

/-- The 2-bit pair field code of PUSH (R72). -/
def pairCode (p : Pair) : Byte :=
  match p with
  | .BC => 0b00#8
  | .DE => 0b01#8
  | .HL => 0b10#8
  | .AF => 0b11#8

/-- The ALU operation code `aaa` (R73). -/
def aluCode (op : AluOp) : Byte :=
  match op with
  | .add => 0b000#8
  | .adc => 0b001#8
  | .sub => 0b010#8
  | .and => 0b100#8
  | .xor => 0b101#8
  | .or => 0b110#8

/-- The opcode byte of a form, by its bit pattern (R73). -/
def Form.opcode (f : Form) : Byte :=
  match f with
  | .ldRegReg d r => 0b01000000#8 ||| opndCode d <<< 3 ||| opndCode r
  | .ldRegImm d => 0b00000110#8 ||| opndCode d <<< 3
  | .ldRegAtHL d => 0b01000110#8 ||| opndCode d <<< 3
  | .ldAtHLReg r => 0b01110000#8 ||| opndCode r
  | .ldAtHLImm => 0b00110110#8
  | .ldAAtBC => 0b00001010#8
  | .ldAAtDE => 0b00011010#8
  | .ldAtBCA => 0b00000010#8
  | .ldAtDEA => 0b00010010#8
  | .ldAAbs => 0b11111010#8
  | .ldAbsA => 0b11101010#8
  | .ldAHighC => 0b11110010#8
  | .ldHighCA => 0b11100010#8
  | .ldiAtHLA => 0b00100010#8
  | .ldiAAtHL => 0b00101010#8
  | .lddAtHLA => 0b00110010#8
  | .lddAAtHL => 0b00111010#8
  | .ldhAtNA => 0b11100000#8
  | .ldhAAtN => 0b11110000#8
  | .ldPairImm p => 0b00000001#8 ||| mainPairCode p <<< 4
  | .ldSpImm => 0b00110001#8
  | .ldSpHL => 0b11111001#8
  | .ldAbsSp => 0b00001000#8
  | .ldhlSp => 0b11111000#8
  | .push p => 0b11000101#8 ||| pairCode p <<< 4
  | .pop p => 0b11000001#8 ||| mainPairCode p <<< 4
  | .popAF => 0b11110001#8
  | .alu op (.reg r) => 0b10000000#8 ||| aluCode op <<< 3 ||| opndCode r
  | .alu op .atHL => 0b10000110#8 ||| aluCode op <<< 3
  | .alu op .imm => 0b11000110#8 ||| aluCode op <<< 3
  | .nop => 0b00000000#8
  | .halt => 0b01110110#8
  | .di => 0b11110011#8
  | .ei => 0b11111011#8

/-- How many immediate bytes follow the opcode, by the format of the form: `OP` 0, `OP_N` 1, `OP_NN` 2 (R70). -/
def Form.immCount (f : Form) : Nat :=
  match f with
  | .ldRegImm _ | .ldAtHLImm | .ldhAtNA | .ldhAAtN | .ldhlSp | .alu _ .imm => 1
  | .ldAAbs | .ldAbsA | .ldPairImm _ | .ldSpImm | .ldAbsSp => 2
  | .ldRegReg _ _ | .ldRegAtHL _ | .ldAtHLReg _ | .ldAAtBC | .ldAAtDE | .ldAtBCA | .ldAtDEA | .ldAHighC | .ldHighCA
  | .ldiAtHLA | .ldiAAtHL | .lddAtHLA | .lddAAtHL | .ldSpHL | .push _ | .pop _ | .popAF
  | .alu _ (.reg _) | .alu _ .atHL | .nop | .halt | .di | .ei => 0

/-! ### The table: forms, entries, and the opcode map -/

/-- The instruction at each implemented form. -/
def Form.instr (f : Form) : Instr :=
  match f with
  | .nop => .nop
  | .ldPairImm .BC => .ldBC_nn
  | .ldAtBCA => .ldAtBC_A
  | .ldRegImm .B => .ldB_n
  | .ldAbsSp => .ldAtNN_SP
  | .ldAAtBC => .ldA_atBC
  | .ldRegImm .C => .ldC_n
  | .ldPairImm .DE => .ldDE_nn
  | .ldAtDEA => .ldAtDE_A
  | .ldRegImm .D => .ldD_n
  | .ldAAtDE => .ldA_atDE
  | .ldRegImm .E => .ldE_n
  | .ldPairImm .HL => .ldHL_nn
  | .ldiAtHLA => .ldiAtHL_A
  | .ldRegImm .H => .ldH_n
  | .ldiAAtHL => .ldiA_atHL
  | .ldRegImm .L => .ldL_n
  | .ldSpImm => .ldSP_nn
  | .lddAtHLA => .lddAtHL_A
  | .ldAtHLImm => .ldAtHL_n
  | .lddAAtHL => .lddA_atHL
  | .ldRegImm .A => .ldA_n
  | .ldRegReg .B .B => .ldB_B
  | .ldRegReg .B .C => .ldB_C
  | .ldRegReg .B .D => .ldB_D
  | .ldRegReg .B .E => .ldB_E
  | .ldRegReg .B .H => .ldB_H
  | .ldRegReg .B .L => .ldB_L
  | .ldRegAtHL .B => .ldB_atHL
  | .ldRegReg .B .A => .ldB_A
  | .ldRegReg .C .B => .ldC_B
  | .ldRegReg .C .C => .ldC_C
  | .ldRegReg .C .D => .ldC_D
  | .ldRegReg .C .E => .ldC_E
  | .ldRegReg .C .H => .ldC_H
  | .ldRegReg .C .L => .ldC_L
  | .ldRegAtHL .C => .ldC_atHL
  | .ldRegReg .C .A => .ldC_A
  | .ldRegReg .D .B => .ldD_B
  | .ldRegReg .D .C => .ldD_C
  | .ldRegReg .D .D => .ldD_D
  | .ldRegReg .D .E => .ldD_E
  | .ldRegReg .D .H => .ldD_H
  | .ldRegReg .D .L => .ldD_L
  | .ldRegAtHL .D => .ldD_atHL
  | .ldRegReg .D .A => .ldD_A
  | .ldRegReg .E .B => .ldE_B
  | .ldRegReg .E .C => .ldE_C
  | .ldRegReg .E .D => .ldE_D
  | .ldRegReg .E .E => .ldE_E
  | .ldRegReg .E .H => .ldE_H
  | .ldRegReg .E .L => .ldE_L
  | .ldRegAtHL .E => .ldE_atHL
  | .ldRegReg .E .A => .ldE_A
  | .ldRegReg .H .B => .ldH_B
  | .ldRegReg .H .C => .ldH_C
  | .ldRegReg .H .D => .ldH_D
  | .ldRegReg .H .E => .ldH_E
  | .ldRegReg .H .H => .ldH_H
  | .ldRegReg .H .L => .ldH_L
  | .ldRegAtHL .H => .ldH_atHL
  | .ldRegReg .H .A => .ldH_A
  | .ldRegReg .L .B => .ldL_B
  | .ldRegReg .L .C => .ldL_C
  | .ldRegReg .L .D => .ldL_D
  | .ldRegReg .L .E => .ldL_E
  | .ldRegReg .L .H => .ldL_H
  | .ldRegReg .L .L => .ldL_L
  | .ldRegAtHL .L => .ldL_atHL
  | .ldRegReg .L .A => .ldL_A
  | .ldAtHLReg .B => .ldAtHL_B
  | .ldAtHLReg .C => .ldAtHL_C
  | .ldAtHLReg .D => .ldAtHL_D
  | .ldAtHLReg .E => .ldAtHL_E
  | .ldAtHLReg .H => .ldAtHL_H
  | .ldAtHLReg .L => .ldAtHL_L
  | .halt => .halt
  | .ldAtHLReg .A => .ldAtHL_A
  | .ldRegReg .A .B => .ldA_B
  | .ldRegReg .A .C => .ldA_C
  | .ldRegReg .A .D => .ldA_D
  | .ldRegReg .A .E => .ldA_E
  | .ldRegReg .A .H => .ldA_H
  | .ldRegReg .A .L => .ldA_L
  | .ldRegAtHL .A => .ldA_atHL
  | .ldRegReg .A .A => .ldA_A
  | .alu .add (.reg .B) => .addA_B
  | .alu .add (.reg .C) => .addA_C
  | .alu .add (.reg .D) => .addA_D
  | .alu .add (.reg .E) => .addA_E
  | .alu .add (.reg .H) => .addA_H
  | .alu .add (.reg .L) => .addA_L
  | .alu .add .atHL => .addA_atHL
  | .alu .add (.reg .A) => .addA_A
  | .alu .adc (.reg .B) => .adcA_B
  | .alu .adc (.reg .C) => .adcA_C
  | .alu .adc (.reg .D) => .adcA_D
  | .alu .adc (.reg .E) => .adcA_E
  | .alu .adc (.reg .H) => .adcA_H
  | .alu .adc (.reg .L) => .adcA_L
  | .alu .adc .atHL => .adcA_atHL
  | .alu .adc (.reg .A) => .adcA_A
  | .alu .sub (.reg .B) => .subA_B
  | .alu .sub (.reg .C) => .subA_C
  | .alu .sub (.reg .D) => .subA_D
  | .alu .sub (.reg .E) => .subA_E
  | .alu .sub (.reg .H) => .subA_H
  | .alu .sub (.reg .L) => .subA_L
  | .alu .sub .atHL => .subA_atHL
  | .alu .sub (.reg .A) => .subA_A
  | .alu .and (.reg .B) => .andA_B
  | .alu .and (.reg .C) => .andA_C
  | .alu .and (.reg .D) => .andA_D
  | .alu .and (.reg .E) => .andA_E
  | .alu .and (.reg .H) => .andA_H
  | .alu .and (.reg .L) => .andA_L
  | .alu .and .atHL => .andA_atHL
  | .alu .and (.reg .A) => .andA_A
  | .alu .xor (.reg .B) => .xorA_B
  | .alu .xor (.reg .C) => .xorA_C
  | .alu .xor (.reg .D) => .xorA_D
  | .alu .xor (.reg .E) => .xorA_E
  | .alu .xor (.reg .H) => .xorA_H
  | .alu .xor (.reg .L) => .xorA_L
  | .alu .xor .atHL => .xorA_atHL
  | .alu .xor (.reg .A) => .xorA_A
  | .alu .or (.reg .B) => .orA_B
  | .alu .or (.reg .C) => .orA_C
  | .alu .or (.reg .D) => .orA_D
  | .alu .or (.reg .E) => .orA_E
  | .alu .or (.reg .H) => .orA_H
  | .alu .or (.reg .L) => .orA_L
  | .alu .or .atHL => .orA_atHL
  | .alu .or (.reg .A) => .orA_A
  | .pop .BC => .popBC
  | .push .BC => .pushBC
  | .alu .add .imm => .addA_n
  | .alu .adc .imm => .adcA_n
  | .pop .DE => .popDE
  | .push .DE => .pushDE
  | .alu .sub .imm => .subA_n
  | .ldhAtNA => .ldhAtN_A
  | .pop .HL => .popHL
  | .ldHighCA => .ldAtHighC_A
  | .push .HL => .pushHL
  | .alu .and .imm => .andA_n
  | .ldAbsA => .ldAtNN_A
  | .alu .xor .imm => .xorA_n
  | .ldhAAtN => .ldhA_atN
  | .popAF => .popAF
  | .ldAHighC => .ldA_atHighC
  | .di => .di
  | .push .AF => .pushAF
  | .alu .or .imm => .orA_n
  | .ldhlSp => .ldhlSP_n
  | .ldSpHL => .ldSP_HL
  | .ldAAbs => .ldA_atNN
  | .ei => .ei

/-- The entry of each instruction: `TABLE` of R212 with the forms of R73 and the fault kinds of R232. -/
def Instr.entry (i : Instr) : Entry :=
  match i with
  | .nop => .impl .nop
  | .ldBC_nn => .impl (.ldPairImm .BC)
  | .ldAtBC_A => .impl .ldAtBCA
  | .incBC => .fatal .unimplemented 0x03#8
  | .incB => .fatal .unimplemented 0x04#8
  | .decB => .fatal .unimplemented 0x05#8
  | .ldB_n => .impl (.ldRegImm .B)
  | .rlca => .fatal .unimplemented 0x07#8
  | .ldAtNN_SP => .impl .ldAbsSp
  | .addHL_BC => .fatal .unimplemented 0x09#8
  | .ldA_atBC => .impl .ldAAtBC
  | .decBC => .fatal .unimplemented 0x0B#8
  | .incC => .fatal .unimplemented 0x0C#8
  | .decC => .fatal .unimplemented 0x0D#8
  | .ldC_n => .impl (.ldRegImm .C)
  | .rrca => .fatal .unimplemented 0x0F#8
  | .stop => .fatal .unimplemented 0x10#8
  | .ldDE_nn => .impl (.ldPairImm .DE)
  | .ldAtDE_A => .impl .ldAtDEA
  | .incDE => .fatal .unimplemented 0x13#8
  | .incD => .fatal .unimplemented 0x14#8
  | .decD => .fatal .unimplemented 0x15#8
  | .ldD_n => .impl (.ldRegImm .D)
  | .rla => .fatal .unimplemented 0x17#8
  | .jrE => .fatal .unimplemented 0x18#8
  | .addHL_DE => .fatal .unimplemented 0x19#8
  | .ldA_atDE => .impl .ldAAtDE
  | .decDE => .fatal .unimplemented 0x1B#8
  | .incE => .fatal .unimplemented 0x1C#8
  | .decE => .fatal .unimplemented 0x1D#8
  | .ldE_n => .impl (.ldRegImm .E)
  | .rra => .fatal .unimplemented 0x1F#8
  | .jrNZ_e => .fatal .unimplemented 0x20#8
  | .ldHL_nn => .impl (.ldPairImm .HL)
  | .ldiAtHL_A => .impl .ldiAtHLA
  | .incHL => .fatal .unimplemented 0x23#8
  | .incH => .fatal .unimplemented 0x24#8
  | .decH => .fatal .unimplemented 0x25#8
  | .ldH_n => .impl (.ldRegImm .H)
  | .daa => .fatal .unimplemented 0x27#8
  | .jrZ_e => .fatal .unimplemented 0x28#8
  | .addHL_HL => .fatal .unimplemented 0x29#8
  | .ldiA_atHL => .impl .ldiAAtHL
  | .decHL => .fatal .unimplemented 0x2B#8
  | .incL => .fatal .unimplemented 0x2C#8
  | .decL => .fatal .unimplemented 0x2D#8
  | .ldL_n => .impl (.ldRegImm .L)
  | .cpl => .fatal .unimplemented 0x2F#8
  | .jrNC_e => .fatal .unimplemented 0x30#8
  | .ldSP_nn => .impl .ldSpImm
  | .lddAtHL_A => .impl .lddAtHLA
  | .incSP => .fatal .unimplemented 0x33#8
  | .incAtHL => .fatal .unimplemented 0x34#8
  | .decAtHL => .fatal .unimplemented 0x35#8
  | .ldAtHL_n => .impl .ldAtHLImm
  | .scf => .fatal .unimplemented 0x37#8
  | .jrC_e => .fatal .unimplemented 0x38#8
  | .addHL_SP => .fatal .unimplemented 0x39#8
  | .lddA_atHL => .impl .lddAAtHL
  | .decSP => .fatal .unimplemented 0x3B#8
  | .incA => .fatal .unimplemented 0x3C#8
  | .decA => .fatal .unimplemented 0x3D#8
  | .ldA_n => .impl (.ldRegImm .A)
  | .ccf => .fatal .unimplemented 0x3F#8
  | .ldB_B => .impl (.ldRegReg .B .B)
  | .ldB_C => .impl (.ldRegReg .B .C)
  | .ldB_D => .impl (.ldRegReg .B .D)
  | .ldB_E => .impl (.ldRegReg .B .E)
  | .ldB_H => .impl (.ldRegReg .B .H)
  | .ldB_L => .impl (.ldRegReg .B .L)
  | .ldB_atHL => .impl (.ldRegAtHL .B)
  | .ldB_A => .impl (.ldRegReg .B .A)
  | .ldC_B => .impl (.ldRegReg .C .B)
  | .ldC_C => .impl (.ldRegReg .C .C)
  | .ldC_D => .impl (.ldRegReg .C .D)
  | .ldC_E => .impl (.ldRegReg .C .E)
  | .ldC_H => .impl (.ldRegReg .C .H)
  | .ldC_L => .impl (.ldRegReg .C .L)
  | .ldC_atHL => .impl (.ldRegAtHL .C)
  | .ldC_A => .impl (.ldRegReg .C .A)
  | .ldD_B => .impl (.ldRegReg .D .B)
  | .ldD_C => .impl (.ldRegReg .D .C)
  | .ldD_D => .impl (.ldRegReg .D .D)
  | .ldD_E => .impl (.ldRegReg .D .E)
  | .ldD_H => .impl (.ldRegReg .D .H)
  | .ldD_L => .impl (.ldRegReg .D .L)
  | .ldD_atHL => .impl (.ldRegAtHL .D)
  | .ldD_A => .impl (.ldRegReg .D .A)
  | .ldE_B => .impl (.ldRegReg .E .B)
  | .ldE_C => .impl (.ldRegReg .E .C)
  | .ldE_D => .impl (.ldRegReg .E .D)
  | .ldE_E => .impl (.ldRegReg .E .E)
  | .ldE_H => .impl (.ldRegReg .E .H)
  | .ldE_L => .impl (.ldRegReg .E .L)
  | .ldE_atHL => .impl (.ldRegAtHL .E)
  | .ldE_A => .impl (.ldRegReg .E .A)
  | .ldH_B => .impl (.ldRegReg .H .B)
  | .ldH_C => .impl (.ldRegReg .H .C)
  | .ldH_D => .impl (.ldRegReg .H .D)
  | .ldH_E => .impl (.ldRegReg .H .E)
  | .ldH_H => .impl (.ldRegReg .H .H)
  | .ldH_L => .impl (.ldRegReg .H .L)
  | .ldH_atHL => .impl (.ldRegAtHL .H)
  | .ldH_A => .impl (.ldRegReg .H .A)
  | .ldL_B => .impl (.ldRegReg .L .B)
  | .ldL_C => .impl (.ldRegReg .L .C)
  | .ldL_D => .impl (.ldRegReg .L .D)
  | .ldL_E => .impl (.ldRegReg .L .E)
  | .ldL_H => .impl (.ldRegReg .L .H)
  | .ldL_L => .impl (.ldRegReg .L .L)
  | .ldL_atHL => .impl (.ldRegAtHL .L)
  | .ldL_A => .impl (.ldRegReg .L .A)
  | .ldAtHL_B => .impl (.ldAtHLReg .B)
  | .ldAtHL_C => .impl (.ldAtHLReg .C)
  | .ldAtHL_D => .impl (.ldAtHLReg .D)
  | .ldAtHL_E => .impl (.ldAtHLReg .E)
  | .ldAtHL_H => .impl (.ldAtHLReg .H)
  | .ldAtHL_L => .impl (.ldAtHLReg .L)
  | .halt => .impl .halt
  | .ldAtHL_A => .impl (.ldAtHLReg .A)
  | .ldA_B => .impl (.ldRegReg .A .B)
  | .ldA_C => .impl (.ldRegReg .A .C)
  | .ldA_D => .impl (.ldRegReg .A .D)
  | .ldA_E => .impl (.ldRegReg .A .E)
  | .ldA_H => .impl (.ldRegReg .A .H)
  | .ldA_L => .impl (.ldRegReg .A .L)
  | .ldA_atHL => .impl (.ldRegAtHL .A)
  | .ldA_A => .impl (.ldRegReg .A .A)
  | .addA_B => .impl (.alu .add (.reg .B))
  | .addA_C => .impl (.alu .add (.reg .C))
  | .addA_D => .impl (.alu .add (.reg .D))
  | .addA_E => .impl (.alu .add (.reg .E))
  | .addA_H => .impl (.alu .add (.reg .H))
  | .addA_L => .impl (.alu .add (.reg .L))
  | .addA_atHL => .impl (.alu .add .atHL)
  | .addA_A => .impl (.alu .add (.reg .A))
  | .adcA_B => .impl (.alu .adc (.reg .B))
  | .adcA_C => .impl (.alu .adc (.reg .C))
  | .adcA_D => .impl (.alu .adc (.reg .D))
  | .adcA_E => .impl (.alu .adc (.reg .E))
  | .adcA_H => .impl (.alu .adc (.reg .H))
  | .adcA_L => .impl (.alu .adc (.reg .L))
  | .adcA_atHL => .impl (.alu .adc .atHL)
  | .adcA_A => .impl (.alu .adc (.reg .A))
  | .subA_B => .impl (.alu .sub (.reg .B))
  | .subA_C => .impl (.alu .sub (.reg .C))
  | .subA_D => .impl (.alu .sub (.reg .D))
  | .subA_E => .impl (.alu .sub (.reg .E))
  | .subA_H => .impl (.alu .sub (.reg .H))
  | .subA_L => .impl (.alu .sub (.reg .L))
  | .subA_atHL => .impl (.alu .sub .atHL)
  | .subA_A => .impl (.alu .sub (.reg .A))
  | .sbcA_B => .fatal .unimplemented 0x98#8
  | .sbcA_C => .fatal .unimplemented 0x99#8
  | .sbcA_D => .fatal .unimplemented 0x9A#8
  | .sbcA_E => .fatal .unimplemented 0x9B#8
  | .sbcA_H => .fatal .unimplemented 0x9C#8
  | .sbcA_L => .fatal .unimplemented 0x9D#8
  | .sbcA_atHL => .fatal .unimplemented 0x9E#8
  | .sbcA_A => .fatal .unimplemented 0x9F#8
  | .andA_B => .impl (.alu .and (.reg .B))
  | .andA_C => .impl (.alu .and (.reg .C))
  | .andA_D => .impl (.alu .and (.reg .D))
  | .andA_E => .impl (.alu .and (.reg .E))
  | .andA_H => .impl (.alu .and (.reg .H))
  | .andA_L => .impl (.alu .and (.reg .L))
  | .andA_atHL => .impl (.alu .and .atHL)
  | .andA_A => .impl (.alu .and (.reg .A))
  | .xorA_B => .impl (.alu .xor (.reg .B))
  | .xorA_C => .impl (.alu .xor (.reg .C))
  | .xorA_D => .impl (.alu .xor (.reg .D))
  | .xorA_E => .impl (.alu .xor (.reg .E))
  | .xorA_H => .impl (.alu .xor (.reg .H))
  | .xorA_L => .impl (.alu .xor (.reg .L))
  | .xorA_atHL => .impl (.alu .xor .atHL)
  | .xorA_A => .impl (.alu .xor (.reg .A))
  | .orA_B => .impl (.alu .or (.reg .B))
  | .orA_C => .impl (.alu .or (.reg .C))
  | .orA_D => .impl (.alu .or (.reg .D))
  | .orA_E => .impl (.alu .or (.reg .E))
  | .orA_H => .impl (.alu .or (.reg .H))
  | .orA_L => .impl (.alu .or (.reg .L))
  | .orA_atHL => .impl (.alu .or .atHL)
  | .orA_A => .impl (.alu .or (.reg .A))
  | .cpB => .fatal .unimplemented 0xB8#8
  | .cpC => .fatal .unimplemented 0xB9#8
  | .cpD => .fatal .unimplemented 0xBA#8
  | .cpE => .fatal .unimplemented 0xBB#8
  | .cpH => .fatal .unimplemented 0xBC#8
  | .cpL => .fatal .unimplemented 0xBD#8
  | .cpAtHL => .fatal .unimplemented 0xBE#8
  | .cpA => .fatal .unimplemented 0xBF#8
  | .retNZ => .fatal .unimplemented 0xC0#8
  | .popBC => .impl (.pop .BC)
  | .jpNZ_nn => .fatal .unimplemented 0xC2#8
  | .jpNN => .fatal .unimplemented 0xC3#8
  | .callNZ_nn => .fatal .unimplemented 0xC4#8
  | .pushBC => .impl (.push .BC)
  | .addA_n => .impl (.alu .add .imm)
  | .rst00H => .fatal .unimplemented 0xC7#8
  | .retZ => .fatal .unimplemented 0xC8#8
  | .ret => .fatal .unimplemented 0xC9#8
  | .jpZ_nn => .fatal .unimplemented 0xCA#8
  | .cbPrefix => .fatal .unimplemented 0xCB#8
  | .callZ_nn => .fatal .unimplemented 0xCC#8
  | .callNN => .fatal .unimplemented 0xCD#8
  | .adcA_n => .impl (.alu .adc .imm)
  | .rst08H => .fatal .unimplemented 0xCF#8
  | .retNC => .fatal .unimplemented 0xD0#8
  | .popDE => .impl (.pop .DE)
  | .jpNC_nn => .fatal .unimplemented 0xD2#8
  | .noneD3 => .fatal .unknown 0xD3#8
  | .callNC_nn => .fatal .unimplemented 0xD4#8
  | .pushDE => .impl (.push .DE)
  | .subA_n => .impl (.alu .sub .imm)
  | .rst10H => .fatal .unimplemented 0xD7#8
  | .retC => .fatal .unimplemented 0xD8#8
  | .reti => .fatal .unimplemented 0xD9#8
  | .jpC_nn => .fatal .unimplemented 0xDA#8
  | .noneDB => .fatal .unknown 0xDB#8
  | .callC_nn => .fatal .unimplemented 0xDC#8
  | .noneDD => .fatal .unknown 0xDD#8
  | .sbcA_n => .fatal .unimplemented 0xDE#8
  | .rst18H => .fatal .unimplemented 0xDF#8
  | .ldhAtN_A => .impl .ldhAtNA
  | .popHL => .impl (.pop .HL)
  | .ldAtHighC_A => .impl .ldHighCA
  | .noneE3 => .fatal .unknown 0xE3#8
  | .noneE4 => .fatal .unknown 0xE4#8
  | .pushHL => .impl (.push .HL)
  | .andA_n => .impl (.alu .and .imm)
  | .rst20H => .fatal .unimplemented 0xE7#8
  | .addSP_e => .fatal .unimplemented 0xE8#8
  | .jpAtHL => .fatal .unimplemented 0xE9#8
  | .ldAtNN_A => .impl .ldAbsA
  | .noneEB => .fatal .unknown 0xEB#8
  | .noneEC => .fatal .unknown 0xEC#8
  | .noneED => .fatal .unknown 0xED#8
  | .xorA_n => .impl (.alu .xor .imm)
  | .rst28H => .fatal .unimplemented 0xEF#8
  | .ldhA_atN => .impl .ldhAAtN
  | .popAF => .impl .popAF
  | .ldA_atHighC => .impl .ldAHighC
  | .di => .impl .di
  | .noneF4 => .fatal .unknown 0xF4#8
  | .pushAF => .impl (.push .AF)
  | .orA_n => .impl (.alu .or .imm)
  | .rst30H => .fatal .unimplemented 0xF7#8
  | .ldhlSP_n => .impl .ldhlSp
  | .ldSP_HL => .impl .ldSpHL
  | .ldA_atNN => .impl .ldAAbs
  | .ei => .impl .ei
  | .noneFC => .fatal .unknown 0xFC#8
  | .noneFD => .fatal .unknown 0xFD#8
  | .cpN => .fatal .unimplemented 0xFE#8
  | .rst38H => .fatal .unimplemented 0xFF#8

/-- Row 0x0x of the opcode map (R75). -/
def mapRow0 : List Instr :=
  [.nop, .ldBC_nn, .ldAtBC_A, .incBC, .incB, .decB, .ldB_n, .rlca, .ldAtNN_SP, .addHL_BC, .ldA_atBC, .decBC,
   .incC, .decC, .ldC_n, .rrca]

/-- Row 0x1x of the opcode map (R75). -/
def mapRow1 : List Instr :=
  [.stop, .ldDE_nn, .ldAtDE_A, .incDE, .incD, .decD, .ldD_n, .rla, .jrE, .addHL_DE, .ldA_atDE, .decDE, .incE,
   .decE, .ldE_n, .rra]

/-- Row 0x2x of the opcode map (R75). -/
def mapRow2 : List Instr :=
  [.jrNZ_e, .ldHL_nn, .ldiAtHL_A, .incHL, .incH, .decH, .ldH_n, .daa, .jrZ_e, .addHL_HL, .ldiA_atHL, .decHL,
   .incL, .decL, .ldL_n, .cpl]

/-- Row 0x3x of the opcode map (R75). -/
def mapRow3 : List Instr :=
  [.jrNC_e, .ldSP_nn, .lddAtHL_A, .incSP, .incAtHL, .decAtHL, .ldAtHL_n, .scf, .jrC_e, .addHL_SP, .lddA_atHL,
   .decSP, .incA, .decA, .ldA_n, .ccf]

/-- Row 0x4x of the opcode map (R75). -/
def mapRow4 : List Instr :=
  [.ldB_B, .ldB_C, .ldB_D, .ldB_E, .ldB_H, .ldB_L, .ldB_atHL, .ldB_A, .ldC_B, .ldC_C, .ldC_D, .ldC_E, .ldC_H,
   .ldC_L, .ldC_atHL, .ldC_A]

/-- Row 0x5x of the opcode map (R75). -/
def mapRow5 : List Instr :=
  [.ldD_B, .ldD_C, .ldD_D, .ldD_E, .ldD_H, .ldD_L, .ldD_atHL, .ldD_A, .ldE_B, .ldE_C, .ldE_D, .ldE_E, .ldE_H,
   .ldE_L, .ldE_atHL, .ldE_A]

/-- Row 0x6x of the opcode map (R75). -/
def mapRow6 : List Instr :=
  [.ldH_B, .ldH_C, .ldH_D, .ldH_E, .ldH_H, .ldH_L, .ldH_atHL, .ldH_A, .ldL_B, .ldL_C, .ldL_D, .ldL_E, .ldL_H,
   .ldL_L, .ldL_atHL, .ldL_A]

/-- Row 0x7x of the opcode map (R75). -/
def mapRow7 : List Instr :=
  [.ldAtHL_B, .ldAtHL_C, .ldAtHL_D, .ldAtHL_E, .ldAtHL_H, .ldAtHL_L, .halt, .ldAtHL_A, .ldA_B, .ldA_C, .ldA_D,
   .ldA_E, .ldA_H, .ldA_L, .ldA_atHL, .ldA_A]

/-- Row 0x8x of the opcode map (R75). -/
def mapRow8 : List Instr :=
  [.addA_B, .addA_C, .addA_D, .addA_E, .addA_H, .addA_L, .addA_atHL, .addA_A, .adcA_B, .adcA_C, .adcA_D,
   .adcA_E, .adcA_H, .adcA_L, .adcA_atHL, .adcA_A]

/-- Row 0x9x of the opcode map (R75). -/
def mapRow9 : List Instr :=
  [.subA_B, .subA_C, .subA_D, .subA_E, .subA_H, .subA_L, .subA_atHL, .subA_A, .sbcA_B, .sbcA_C, .sbcA_D,
   .sbcA_E, .sbcA_H, .sbcA_L, .sbcA_atHL, .sbcA_A]

/-- Row 0xAx of the opcode map (R75). -/
def mapRowA : List Instr :=
  [.andA_B, .andA_C, .andA_D, .andA_E, .andA_H, .andA_L, .andA_atHL, .andA_A, .xorA_B, .xorA_C, .xorA_D,
   .xorA_E, .xorA_H, .xorA_L, .xorA_atHL, .xorA_A]

/-- Row 0xBx of the opcode map (R75). -/
def mapRowB : List Instr :=
  [.orA_B, .orA_C, .orA_D, .orA_E, .orA_H, .orA_L, .orA_atHL, .orA_A, .cpB, .cpC, .cpD, .cpE, .cpH, .cpL,
   .cpAtHL, .cpA]

/-- Row 0xCx of the opcode map (R75). -/
def mapRowC : List Instr :=
  [.retNZ, .popBC, .jpNZ_nn, .jpNN, .callNZ_nn, .pushBC, .addA_n, .rst00H, .retZ, .ret, .jpZ_nn, .cbPrefix,
   .callZ_nn, .callNN, .adcA_n, .rst08H]

/-- Row 0xDx of the opcode map (R75). -/
def mapRowD : List Instr :=
  [.retNC, .popDE, .jpNC_nn, .noneD3, .callNC_nn, .pushDE, .subA_n, .rst10H, .retC, .reti, .jpC_nn, .noneDB,
   .callC_nn, .noneDD, .sbcA_n, .rst18H]

/-- Row 0xEx of the opcode map (R75). -/
def mapRowE : List Instr :=
  [.ldhAtN_A, .popHL, .ldAtHighC_A, .noneE3, .noneE4, .pushHL, .andA_n, .rst20H, .addSP_e, .jpAtHL, .ldAtNN_A,
   .noneEB, .noneEC, .noneED, .xorA_n, .rst28H]

/-- Row 0xFx of the opcode map (R75). -/
def mapRowF : List Instr :=
  [.ldhA_atN, .popAF, .ldA_atHighC, .di, .noneF4, .pushAF, .orA_n, .rst30H, .ldhlSP_n, .ldSP_HL, .ldA_atNN, .ei,
   .noneFC, .noneFD, .cpN, .rst38H]

/-- The 16 rows of the opcode map (R75). -/
def opcodeMap : List (List Instr) :=
  [mapRow0, mapRow1, mapRow2, mapRow3] ++ [mapRow4, mapRow5, mapRow6, mapRow7] ++
  [mapRow8, mapRow9, mapRowA, mapRowB] ++ [mapRowC, mapRowD, mapRowE, mapRowF]

/-- Decode is "direct dispatch on the 256-way opcode space" (R212): row by the high nibble, column by the low. -/
def decodeOpcode (op : Byte) : Instr :=
  ((opcodeMap.getD (op.toNat / 16) []).getD (op.toNat % 16) .noneFD)

/-- The opcode byte of an instruction, from the patterns (R73) or the list of fatal bytes (R232). -/
def opcodeOf (i : Instr) : Byte :=
  match i.entry with
  | .impl f => f.opcode
  | .fatal _ op => op

/-- The immediate bytes an instruction has after its opcode; a fatal opcode is one byte (R70, R78). -/
def Instr.immCount (i : Instr) : Nat :=
  match i.entry with
  | .impl f => f.immCount
  | .fatal _ _ => 0

/-- The length of an instruction in bytes, from its opcode alone (R78). -/
def Instr.length (i : Instr) : Nat := i.immCount + 1

/-! ### Byte streams -/

/-- Why a byte stream holds no whole instruction: there is no byte, or the immediates of an opcode are cut off. -/
inductive DecodeError where
  | noByte
  | truncated (i : Instr)
  deriving DecidableEq, Repr

/-- What decoding a byte stream gives: an instruction and the bytes after it, or a refusal by name. -/
inductive Decoded where
  | ok (code : Code) (rest : List Byte)
  | refused (why : DecodeError)
  deriving DecidableEq, Repr

/-- The first instruction of a byte stream, its length told by the opcode byte alone (R70, R78). -/
def decode (bytes : List Byte) : Decoded :=
  match bytes with
  | [] => .refused .noByte
  | op :: rest =>
    let i := decodeOpcode op
    if rest.length < i.immCount then .refused (.truncated i)
    else .ok ⟨i, rest.take i.immCount⟩ (rest.drop i.immCount)

/-- The bytes of an instruction: its opcode, then its immediates in address order (R70). -/
def encode (code : Code) : List Byte := opcodeOf code.instr :: code.imm

/-- The three bytes of an instruction word whose bits from `nbits` up are zero; bit 0 is bit 0 of the first byte. -/
def wordBytes (nbits w : Nat) : List Byte :=
  let v := w % 2 ^ nbits
  [BitVec.ofNat 8 v, BitVec.ofNat 8 (v >>> 8), BitVec.ofNat 8 (v >>> 16)]

/-- The instruction the decoder reads from a word of the opcode table, laid out as bytes. -/
def decodeTableWord (nbits w : Nat) : Option Instr :=
  match decode (wordBytes nbits w) with
  | .ok code _ => some code.instr
  | .refused _ => none

/-! ### The source's mnemonics (R79) -/

/-- The name of an operand register in a mnemonic. -/
def opndText (o : Opnd) : String :=
  match o with
  | .B => "B"
  | .C => "C"
  | .D => "D"
  | .E => "E"
  | .H => "H"
  | .L => "L"
  | .A => "A"

/-- The name of a pair in a mnemonic. -/
def pairText (p : Pair) : String :=
  match p with
  | .BC => "BC"
  | .DE => "DE"
  | .HL => "HL"
  | .AF => "AF"

/-- The name of BC, DE or HL in a mnemonic. -/
def mainPairText (p : MainPair) : String :=
  match p with
  | .BC => "BC"
  | .DE => "DE"
  | .HL => "HL"

/-- The name of an ALU operation. -/
def aluText (op : AluOp) : String :=
  match op with
  | .add => "ADD"
  | .adc => "ADC"
  | .sub => "SUB"
  | .and => "AND"
  | .xor => "XOR"
  | .or => "OR"

/-- The operand of an ALU mnemonic. -/
def aluSrcText (src : AluSrc) : String :=
  match src with
  | .reg o => opndText o
  | .atHL => "(HL)"
  | .imm => "n"

/-- The mnemonic of an implemented form as the spec writes it (R75, R79). -/
def Form.text (f : Form) : String :=
  match f with
  | .ldRegReg d r => "LD " ++ opndText d ++ "," ++ opndText r
  | .ldRegImm d => "LD " ++ opndText d ++ ",n"
  | .ldRegAtHL d => "LD " ++ opndText d ++ ",(HL)"
  | .ldAtHLReg r => "LD (HL)," ++ opndText r
  | .ldAtHLImm => "LD (HL),n"
  | .ldAAtBC => "LD A,(BC)"
  | .ldAAtDE => "LD A,(DE)"
  | .ldAtBCA => "LD (BC),A"
  | .ldAtDEA => "LD (DE),A"
  | .ldAAbs => "LD A,(nn)"
  | .ldAbsA => "LD (nn),A"
  | .ldAHighC => "LD A,(0xFF00+C)"
  | .ldHighCA => "LD (0xFF00+C),A"
  | .ldiAtHLA => "LDI (HL),A"
  | .ldiAAtHL => "LDI A,(HL)"
  | .lddAtHLA => "LDD (HL),A"
  | .lddAAtHL => "LDD A,(HL)"
  | .ldhAtNA => "LDH (n),A"
  | .ldhAAtN => "LDH A,(n)"
  | .ldPairImm p => "LD " ++ mainPairText p ++ ",nn"
  | .ldSpImm => "LD SP,nn"
  | .ldSpHL => "LD SP,HL"
  | .ldAbsSp => "LD (nn),SP"
  | .ldhlSp => "LDHL SP,n"
  | .push p => "PUSH " ++ pairText p
  | .pop p => "POP " ++ mainPairText p
  | .popAF => "POP AF"
  | .alu op src => aluText op ++ " A," ++ aluSrcText src
  | .nop => "NOP"
  | .halt => "HALT"
  | .di => "DI"
  | .ei => "EI"

end Sys2Proof
end

