-- ==== Sys2Proof/Machine/Bits.lean ====
section
/-! DEFINITION. Byte and word primitives: join and split (R24), sign and zero extension (R8), the high page (R12). -/

namespace Sys2Proof.Machine

/-- `join(high, low) = (high << 8) | low` (R24). -/
def join (high low : Byte) : Word := (high.setWidth 16 <<< 8) ||| low.setWidth 16

/-- `split(v) = ((v >> 8) & 0xFF, v & 0xFF)` (R24). -/
def split (v : Word) : Byte × Byte := ((v >>> 8).setWidth 8, v.setWidth 8)

/-- `sext_16(v)`: `v + 0xFF00` mod 2^16 if bit 7 of v is 1, else v (R8). -/
def sext16 (v : Byte) : Word := if v.getLsbD 7 then v.setWidth 16 + 0xFF00#16 else v.setWidth 16

/-- `zext_16(v)` (R8). -/
def zext16 (v : Byte) : Word := v.setWidth 16

/-- The address `0xFF00 | n` in the high page (R111, R118). -/
def highPage (n : Byte) : Word := 0xFF00#16 ||| zext16 n

end Sys2Proof.Machine
end

