-- ==== Sys2Proof/Config.lean ====
section
/-! DEFINITION. The parameters of rule R6, as plain data, and the free values of a bus whose answers the spec leaves
open. A machine's parameters are held in its state (`State.cfg`) and no step changes them, so a claim over every state
is a claim over every value of every parameter (assumption log 1). -/

namespace Sys2Proof

/-- `P_LDRR_ORDER`: which byte of LD BC/DE/HL,nn comes first (R6, R130). -/
inductive LdrrOrder where
  | highFirst
  | lowFirst
  deriving DecidableEq, Repr

/-- `P_LDH_EA`: how LDH forms its address (R6, R118, R119). -/
inductive LdhEa where
  | pcPage
  | immOffset
  deriving DecidableEq, Repr

/-- `P_PUSH_COST`: the two costs of PUSH, (3, 12) and (4, 16) (R6, R150). -/
inductive PushCost where
  | three12
  | four16
  deriving DecidableEq, Repr

/-- `P_BUS`: the flat RAM bus (R56), or a bus about whose answers nothing is assumed (R50, R60; log 2). -/
inductive BusKind where
  | ram
  | free
  deriving DecidableEq, Repr

/-- The named parameters of R6; the field defaults are that table's defaults. `P_INIT_MEM` is the memory handed to
`State.boot`. -/
structure Config where
  ldrrOrder : LdrrOrder := .highFirst
  ldhEa : LdhEa := .pcPage
  ldhlSigned : Bool := false
  pushCost : PushCost := .three12
  clkBits : Nat := 16
  bus : BusKind := .ram
  deriving DecidableEq, Repr

/-- `P_CLK_BITS` is "any positive integer" (R6). -/
def Config.wf (cfg : Config) : Bool := decide (0 < cfg.clkBits)

/-- FREE VALUE (log 2): what a bus of kind `free` answers to the byte read numbered by the first argument, at an
address. It has no body: nothing can be proved of its value. -/
opaque Config.freeByte : Nat → Word → Byte

/-- FREE VALUE (log 2): what a bus of kind `free` answers to a word read. -/
opaque Config.freeWord : Nat → Word → Word

end Sys2Proof
end

