-- ==== Sys2Proof/Machine/Memory.lean ====
section
/-! DEFINITION. The flat RAM behind the bus (R51, R56): 65536 bytes, held as a list of (address, byte) in one canonical
form, addresses strictly rising and no entry equal to what an unlisted address reads as. -/

namespace Sys2Proof.Machine

/-- The listed bytes of the RAM. -/
abbrev Memory := List Host.Cell

/-- What an unlisted address reads as: the default of `P_INIT_MEM`, all zero (R6; DESIGN CHOICE, log 3). -/
def Memory.unlisted : Byte := 0x00#8

/-- The canonical form. -/
abbrev Memory.wf (m : Memory) : Prop :=
  m.Pairwise (fun x y => x.1 < y.1) ∧ ∀ x ∈ m, x.1 < 65536 ∧ x.2 ≠ Memory.unlisted

/-- `M[a]` (R56). -/
def Memory.read : Memory → Nat → Byte
  | [], _ => Memory.unlisted
  | (k, w) :: m, a => if k = a then w else Memory.read m a

/-- An entry in front of a memory, unless it is what an unlisted address reads as. -/
def Memory.put (a : Nat) (v : Byte) (m : Memory) : Memory :=
  if v = Memory.unlisted then m else (a, v) :: m

/-- `M[a] <- v` (R56), keeping the canonical form. -/
def Memory.write : Memory → Nat → Byte → Memory
  | [], a, v => Memory.put a v []
  | (k, w) :: m, a, v =>
    if a < k then Memory.put a v ((k, w) :: m)
    else if a = k then Memory.put a v m
    else (k, w) :: Memory.write m a v

end Sys2Proof.Machine
end

