-- ==== Sys2Proof/Machine/State.lean ====
section
/-! DEFINITION. The machine's state as plain data: the CPU state of R39, the memory behind the bus, the parameters of
R6, the step's outputs of R216 and the fault mark of R231; the fault and refusal reasons; and the state after reset. -/

namespace Sys2Proof.Machine

/-- An (m, t) pair: machine cycles and T-states (R12, R30). The counters are unsigned integers modulo 2^K with
K = `P_CLK_BITS` a parameter of the state, so they are numbers kept below 2^K by the operations (log 11). -/
structure Cycles where
  m : Nat
  t : Nat
  deriving DecidableEq, Repr

/-- A bus event (R64): `Read1(a) -> v`, `Read2(a) -> v`, `Write1(a, v)`, `Write2(a, v)`. -/
inductive BusEvent where
  | read1 (a : Word) (v : Byte)
  | read2 (a : Word) (v : Word)
  | write1 (a : Word) (v : Byte)
  | write2 (a : Word) (v : Word)
  deriving DecidableEq, Repr

/-- What a fatal fault records: its kind, "the offending byte" and the address it was fetched from (R231). -/
structure FatalMark where
  kind : FaultKind
  opcode : Byte
  opAddr : Word
  deriving DecidableEq, Repr

/-- The state. Registers, PC, SP and clocks are R39's record; the rest is listed in INVENTORY.md. -/
@[ext]
structure State where
  a : Byte
  b : Byte
  c : Byte
  d : Byte
  e : Byte
  h : Byte
  l : Byte
  /-- The flag register (R25); its low nibble is always zero (R26). -/
  f : Byte
  pc : Word
  sp : Word
  /-- The machine clock (R30). -/
  clk : Cycles
  /-- The last-instruction clock (R30), (0, 0) at every step boundary (R32). -/
  last : Cycles
  /-- The RAM behind the bus (R56). -/
  mem : Memory
  /-- The parameters of R6; no step writes them. -/
  cfg : Config
  /-- The bus events of the step in hand, in order (R64, R216). -/
  events : List BusEvent
  /-- The cost output of the last step that completed (R216); none where no cost is recorded. -/
  cost : Option Cycles
  /-- The model's own counter of bus reads, the index of the free answers (log 2). -/
  busReads : Nat
  /-- The fault mark, "never cleared" (R231); none while the CPU runs. -/
  stopped : Option FatalMark
  deriving DecidableEq, Repr

/-- Why a step ends with a fault. -/
inductive Fault where
  /-- The fatal fault of R231: raised by the meaning of each of the 98 opcodes with no implemented operation, and
  again by a step of a CPU already stopped, whose mark is never cleared. It carries the mark and the state left behind
  (that after step 2 of R210). It is the spec's own outcome `Fault(kind, opcode, op_addr)` (R216), so it is safe. -/
  | fatal (mark : FatalMark) (left : State)
  deriving DecidableEq, Repr

/-- Why a step is refused. -/
inductive Refusal where
  /-- An instruction with no meaning yet, raised by its arm of `exec` alone; no arm raises it in this model. Safe. -/
  | notModelled (mnemonic : String)
  deriving DecidableEq, Repr

/-- The host's "construct" (R246): a CPU bound to a bus (its parameters and its memory contents, `P_INIT_MEM`) and
reset at once, every register at R38's value. -/
def State.boot (cfg : Config) (mem : Memory) : State where
  a := 0x00#8
  b := 0x00#8
  c := 0x00#8
  d := 0x00#8
  e := 0x00#8
  h := 0x00#8
  l := 0x00#8
  f := 0x00#8
  pc := 0x0000#16
  sp := 0x0000#16
  clk := ⟨0, 0⟩
  last := ⟨0, 0⟩
  mem := mem
  cfg := cfg
  events := []
  cost := none
  busReads := 0
  stopped := none

/-- The machine right after reset (R38, R260), with R6's default parameters and memory with nothing listed. -/
def State.reset : State := State.boot {} []

end Sys2Proof.Machine
end

