-- ==== Sys2Proof/Machine/Ops.lean ====
section
/-! DEFINITION. The named operations over the state: the pseudocode primitives of R9 (registers, pairs, bus accesses,
fetches, `cost`, `raise Fatal`), the parts of a step around an operation (R210), and the reset operation (R260). -/

namespace Sys2Proof.Machine

/-- The answer of a meaning or a step. -/
abbrev StepOut := Host.Outcome State Fault Refusal

/-! ### Registers -/

/-- `r[X]` (R9). -/
def readReg (r : Reg) (s : State) : Byte :=
  match r with
  | .A => s.a
  | .B => s.b
  | .C => s.c
  | .D => s.d
  | .E => s.e
  | .H => s.h
  | .L => s.l
  | .F => s.f

/-- `r[X] <- v` (R9). A write of F keeps its low nibble at 0, "always zero" (R26), at this one place. -/
def writeReg (r : Reg) (v : Byte) (s : State) : State :=
  match r with
  | .A => { s with a := v }
  | .B => { s with b := v }
  | .C => { s with c := v }
  | .D => { s with d := v }
  | .E => { s with e := v }
  | .H => { s with h := v }
  | .L => { s with l := v }
  | .F => { s with f := v &&& 0xF0#8 }

/-- `hi(P)`: "the first-named register holds bits 15–8" (R23). -/
def pairHi (p : Pair) : Reg :=
  match p with
  | .BC => .B
  | .DE => .D
  | .HL => .H
  | .AF => .A

/-- `lo(P)`: "the second holds bits 7–0" (R23). -/
def pairLo (p : Pair) : Reg :=
  match p with
  | .BC => .C
  | .DE => .E
  | .HL => .L
  | .AF => .F

/-- `rr[P]` (R24). -/
def readPair (p : Pair) (s : State) : Word := join (readReg (pairHi p) s) (readReg (pairLo p) s)

/-- `rr[P] <- v` (R24). -/
def writePair (p : Pair) (v : Word) (s : State) : State :=
  writeReg (pairLo p) (split v).2 (writeReg (pairHi p) (split v).1 s)

/-- `pc <- pc + delta` with 16-bit wrap (R34). -/
def advancePc (delta : Word) (s : State) : State := { s with pc := s.pc + delta }

/-- `sp <- v` (R9, R35). -/
def setSp (v : Word) (s : State) : State := { s with sp := v }

/-! ### The bus -/

/-- What the bus answers to a byte read at `addr` (R50): the RAM's byte (R56), or a free value (log 2). -/
def busByte (addr : Word) (s : State) : Byte :=
  match s.cfg.bus with
  | .ram => Memory.read s.mem addr.toNat
  | .free => Config.freeByte s.busReads addr

/-- What the bus answers to a word read at `addr`: under the RAM bus the byte at `addr` is the low byte and the one at
`addr + 1` mod 2^16 the high byte (R52, R53, R56). -/
def busWord (addr : Word) (s : State) : Word :=
  match s.cfg.bus with
  | .ram => join (Memory.read s.mem (addr + 1#16).toNat) (Memory.read s.mem addr.toNat)
  | .free => Config.freeWord s.busReads addr

/-- A read is one bus event (R50, R64). -/
def noteRead (ev : BusEvent) (s : State) : State :=
  { s with events := s.events ++ [ev], busReads := s.busReads + 1 }

/-- `MemRead(addr, 1)` (R9, R50). -/
def memRead1 (addr : Word) (s : State) : Byte × State :=
  (busByte addr s, noteRead (.read1 addr (busByte addr s)) s)

/-- `MemRead(addr, 2)` (R9, R50): one bus event. -/
def memRead2 (addr : Word) (s : State) : Word × State :=
  (busWord addr s, noteRead (.read2 addr (busWord addr s)) s)

/-- `MemWrite(addr, 1, v)` (R9, R50, R56). -/
def memWrite1 (addr : Word) (v : Byte) (s : State) : State :=
  { s with mem := Memory.write s.mem addr.toNat v, events := s.events ++ [.write1 addr v] }

/-- `MemWrite(addr, 2, v)` (R9, R50): one bus event; the RAM performs it as two byte updates, low byte at `addr`, then
high byte at `addr + 1` mod 2^16 (R53, R56, R57). -/
def memWrite2 (addr : Word) (v : Word) (s : State) : State :=
  { s with
    mem := Memory.write (Memory.write s.mem addr.toNat (split v).2) (addr + 1#16).toNat (split v).1,
    events := s.events ++ [.write2 addr v] }

/-- `fetch8()`: read the byte at pc, then advance pc by 1 (R9). -/
def fetch8 (s : State) : Byte × State :=
  let r := memRead1 s.pc s
  (r.1, advancePc 1#16 r.2)

/-- `fetch16()`: read the word at pc, then advance pc by 2 (R9). -/
def fetch16 (s : State) : Word × State :=
  let r := memRead2 s.pc s
  (r.1, advancePc 2#16 r.2)

/-! ### Clocks -/

/-- The pair (m, t) as counters of K bits (R30). -/
def wrapCycles (k m t : Nat) : Cycles := ⟨m % 2 ^ k, t % 2 ^ k⟩

/-- `cost(m, t)`: `last.set(m, t)` (R31). -/
def charge (m t : Nat) (s : State) : State := { s with last := wrapCycles s.cfg.clkBits m t }

/-- The cost of PUSH under `P_PUSH_COST` (R150). -/
def pushCycles (p : PushCost) : Cycles :=
  match p with
  | .three12 => ⟨3, 12⟩
  | .four16 => ⟨4, 16⟩

/-! ### The parts of a step around the operation -/

/-- The step's outputs start empty: no bus event yet, no cost recorded (R216; log 6). -/
def beginStep (s : State) : State := { s with events := [], cost := none }

/-- Steps 1 and 2 of R210: one byte read at pc, then pc + 1 (R211). -/
def fetchOpcode (s : State) : Byte × State := fetch8 (beginStep s)

/-- Steps 5 and 6 of R210: fold `last` into `clk`, componentwise modulo 2^K (R214), give it out as the step's cost
(R216) and clear it (R215). -/
def endStep (s : State) : State :=
  { s with
    clk := wrapCycles s.cfg.clkBits (s.clk.m + s.last.m) (s.clk.t + s.last.t),
    cost := some s.last,
    last := ⟨0, 0⟩ }

/-- `raise Fatal(kind, opcode, op_addr)` (R9, R231). It runs after the opcode fetch, so op_addr is pc - 1; the state
left is the one it is given, with the mark that is never cleared. -/
def raiseFatal (kind : FaultKind) (opcode : Byte) (s : State) : StepOut :=
  let mark : FatalMark := ⟨kind, opcode, s.pc - 1#16⟩
  .fault (.fatal mark { s with stopped := some mark })

/-! ### Reset, and placing an instruction's bytes -/

/-- The reset operation (R260): R38's value into every piece of CPU state; no bus event, memory untouched (R262). -/
def resetCpu (s : State) : State :=
  { s with
    a := 0x00#8, b := 0x00#8, c := 0x00#8, d := 0x00#8, e := 0x00#8, h := 0x00#8, l := 0x00#8, f := 0x00#8,
    pc := 0x0000#16, sp := 0x0000#16, clk := ⟨0, 0⟩, last := ⟨0, 0⟩ }

/-- Bytes laid in memory from `addr` upward, addresses modulo 2^16. -/
def placeBytes (addr : Word) (bs : List Byte) (m : Memory) : Memory :=
  match bs with
  | [] => m
  | v :: rest => placeBytes (addr + 1#16) rest (Memory.write m addr.toNat v)

end Sys2Proof.Machine
end

