-- ==== Sys2Proof/Machine/Flags.lean ====
section
/-! DEFINITION. The flag register's operations (R25, R27, R28) and every flag computation of the spec: `add8`, `adc8`,
`sub8` (R161-R163), `and8`, `or8`, `xor8` (R180) and LDHL's two forms (R134). -/

namespace Sys2Proof.Machine

/-- A flag identifier: four values, so an invalid one cannot be written down (R40). -/
inductive Flag where
  | Z
  | N
  | H
  | C
  deriving DecidableEq, Repr

/-- The mask of a flag in F (R25). -/
def flagMask (x : Flag) : Byte :=
  match x with
  | .Z => 0x80#8
  | .N => 0x40#8
  | .H => 0x20#8
  | .C => 0x10#8

/-- `Set(X)`: OR with the mask (R27). -/
def setFlag (x : Flag) (s : State) : State := { s with f := s.f ||| flagMask x }

/-- `Reset(X)`: AND with the mask's complement (R27). -/
def resetFlag (x : Flag) (s : State) : State := { s with f := s.f &&& ~~~ flagMask x }

/-- `Test(X)`: `(r[F] & m) = m` (R27). -/
def testFlag (x : Flag) (s : State) : Bool := decide (s.f &&& flagMask x = flagMask x)

/-- The byte of four flag values: `(z << 7) | (n << 6) | (h << 5) | (c << 4)` (R25, R28). -/
def flagByte (z n h c : Bool) : Byte :=
  (if z then flagMask .Z else 0#8) ||| (if n then flagMask .N else 0#8) |||
    (if h then flagMask .H else 0#8) ||| (if c then flagMask .C else 0#8)

/-- `setflags(z, n, h, c)`, the one way an instruction writes flags, by its net effect (R28). -/
def setFlags (z n h c : Bool) (s : State) : State := { s with f := flagByte z n h c }

/-- What an ALU function returns: `(res, z, n, h, c)` (R161). -/
structure AluOut where
  res : Byte
  z : Bool
  n : Bool
  h : Bool
  c : Bool
  deriving DecidableEq, Repr

/-- `add8(a, b)` (R161). -/
def add8 (a b : Byte) : AluOut :=
  let res := a + b
  { res := res
    z := decide (res = 0#8)
    n := false
    h := decide (((a &&& 0x0F#8) + (b &&& 0x0F#8)) &&& 0x10#8 ≠ 0#8)
    c := decide (res < a) }

/-- `adc8(a, b, cin)` (R162): the source's own half-carry and carry formulas, corners included. -/
def adc8 (a b : Byte) (cin : Bool) : AluOut :=
  let k : Byte := if cin then 1#8 else 0#8
  let res := a + b + k
  { res := res
    z := decide (res = 0#8)
    n := false
    h := decide (((a &&& 0x0F#8) + ((b + k) &&& 0x0F#8)) &&& 0x10#8 ≠ 0#8)
    c := decide (res < a) }

/-- `sub8(a, b)` (R163); the nibble subtraction is modular, never truncating. -/
def sub8 (a b : Byte) : AluOut :=
  let res := a - b
  { res := res
    z := decide (res = 0#8)
    n := true
    h := decide (((a &&& 0x0F#8) - (b &&& 0x0F#8)) &&& 0x10#8 ≠ 0#8)
    c := decide (a < res) }

/-- `and8(a, b)` (R180). -/
def and8 (a b : Byte) : AluOut :=
  let res := a &&& b
  { res := res, z := decide (res = 0#8), n := false, h := true, c := false }

/-- `or8(a, b)` (R180). -/
def or8 (a b : Byte) : AluOut :=
  let res := a ||| b
  { res := res, z := decide (res = 0#8), n := false, h := false, c := false }

/-- `xor8(a, b)` (R180). -/
def xor8 (a b : Byte) : AluOut :=
  let res := a ^^^ b
  { res := res, z := decide (res = 0#8), n := false, h := false, c := false }

/-- The result and the H and C of LDHL SP,n (R134). -/
structure LdhlOut where
  res : Word
  h : Bool
  c : Bool
  deriving DecidableEq, Repr

/-- LDHL with `P_LDHL_SIGNED = false` (R134). -/
def ldhlUnsigned (sp : Word) (n : Byte) : LdhlOut :=
  let res := sp + zext16 n
  { res := res
    h := decide (((sp &&& 0x000F#16) + (zext16 n &&& 0x000F#16)) &&& 0x0010#16 ≠ 0#16)
    c := decide (res < sp) }

/-- LDHL with `P_LDHL_SIGNED = true`: carries out of bit 3 and bit 7 of the low byte (R134; log 12). -/
def ldhlSigned (sp : Word) (n : Byte) : LdhlOut :=
  { res := sp + sext16 n
    h := decide (0xF < (sp &&& 0x000F#16).toNat + (n &&& 0x0F#8).toNat)
    c := decide (0xFF < (sp &&& 0x00FF#16).toNat + n.toNat) }

/-- LDHL under the parameter `P_LDHL_SIGNED` (R134). -/
def ldhlOf (signed : Bool) (sp : Word) (n : Byte) : LdhlOut :=
  if signed then ldhlSigned sp n else ldhlUnsigned sp n

end Sys2Proof.Machine
end

