-- ==== Sys2Proof/Machine/Operands.lean ====
section
/-! DEFINITION. The operand forms: the seven operand registers (R13, R71), the pairs of the 16-bit forms (R72), the
three operand sources of an ALU instruction with their costs (R160), and the addresses the load forms compute. -/

namespace Sys2Proof.Machine

/-- The register an operand code names; F is never one (R13, R71). -/
def opndReg (o : Opnd) : Reg :=
  match o with
  | .B => .B
  | .C => .C
  | .D => .D
  | .E => .E
  | .H => .H
  | .L => .L
  | .A => .A

/-- BC, DE or HL as a pair (R72). -/
def mainPair (p : MainPair) : Pair :=
  match p with
  | .BC => .BC
  | .DE => .DE
  | .HL => .HL

/-- `r[r]` of an operand register (R13). -/
def readOpnd (o : Opnd) (s : State) : Byte := readReg (opndReg o) s

/-- `r[r] <- v` of an operand register (R13). -/
def writeOpnd (o : Opnd) (v : Byte) (s : State) : State := writeReg (opndReg o) v s

/-- `operand(o)` (R160): the operand's value, the instruction's cost, and the state after the operand is read. -/
def aluOperand (src : AluSrc) (s : State) : Byte × Cycles × State :=
  match src with
  | .reg o => (readOpnd o s, ⟨1, 4⟩, s)
  | .atHL =>
    let r := memRead1 (readPair .HL s) s
    (r.1, ⟨2, 8⟩, r.2)
  | .imm =>
    let r := fetch8 s
    (r.1, ⟨2, 8⟩, r.2)

/-- `hl_inc()` (R113): L + 1, and H + 1 iff L wrapped to 0x00. -/
def hlInc (s : State) : State :=
  let s1 := writeReg .L (readReg .L s + 1#8) s
  if readReg .L s1 = 0x00#8 then writeReg .H (readReg .H s1 + 1#8) s1 else s1

/-- `hl_dec()` (R113): L - 1, and H - 1 iff L underflowed to 0xFF. -/
def hlDec (s : State) : State :=
  let s1 := writeReg .L (readReg .L s - 1#8) s
  if readReg .L s1 = 0xFF#8 then writeReg .H (readReg .H s1 - 1#8) s1 else s1

/-- LDH's address under `PC_PAGE`: `(0xFF00 + pc) mod 2^16`, pc the address of byte 1 (R118). -/
def pcPageAddr (s : State) : Word := 0xFF00#16 + s.pc

end Sys2Proof.Machine
end

