-- ==== Sys2Proof/Machine/Arith8.lean ====
section
/-! DEFINITION. 8-bit arithmetic ADD, ADC, SUB (R160-R173) and the one shape of every ALU instruction, then one
meaning per opcode. -/

namespace Sys2Proof.Machine

/-- The function an ALU operation computes, on A, the operand and the carry flag (R161-R163, R180). -/
def aluFun (op : AluOp) (a b : Byte) (cin : Bool) : AluOut :=
  match op with
  | .add => add8 a b
  | .adc => adc8 a b cin
  | .sub => sub8 a b
  | .and => and8 a b
  | .xor => xor8 a b
  | .or => or8 a b

/-- An ALU instruction (R164, R167, R170, R181, R184, R187): read the operand, compute from the old A and the old
carry, write A, write all four flags, charge the operand's cost. -/
def aluInstr (op : AluOp) (src : AluSrc) (s : State) : State :=
  let b := aluOperand src s
  let s1 := b.2.2
  let o := aluFun op (readReg .A s1) b.1 (testFlag .C s1)
  charge b.2.1.m b.2.1.t (setFlags o.z o.n o.h o.c (writeReg .A o.res s1))

/-- ADD A,B, 0x80 (R164). -/
def execAddA_B (s : State) : StepOut := .next (aluInstr .add (.reg .B) s)

/-- ADD A,C, 0x81 (R164). -/
def execAddA_C (s : State) : StepOut := .next (aluInstr .add (.reg .C) s)

/-- ADD A,D, 0x82 (R164). -/
def execAddA_D (s : State) : StepOut := .next (aluInstr .add (.reg .D) s)

/-- ADD A,E, 0x83 (R164). -/
def execAddA_E (s : State) : StepOut := .next (aluInstr .add (.reg .E) s)

/-- ADD A,H, 0x84 (R164). -/
def execAddA_H (s : State) : StepOut := .next (aluInstr .add (.reg .H) s)

/-- ADD A,L, 0x85 (R164). -/
def execAddA_L (s : State) : StepOut := .next (aluInstr .add (.reg .L) s)

/-- ADD A,(HL), 0x86 (R165). -/
def execAddA_atHL (s : State) : StepOut := .next (aluInstr .add .atHL s)

/-- ADD A,A, 0x87 (R164). -/
def execAddA_A (s : State) : StepOut := .next (aluInstr .add (.reg .A) s)

/-- ADC A,B, 0x88 (R167). -/
def execAdcA_B (s : State) : StepOut := .next (aluInstr .adc (.reg .B) s)

/-- ADC A,C, 0x89 (R167). -/
def execAdcA_C (s : State) : StepOut := .next (aluInstr .adc (.reg .C) s)

/-- ADC A,D, 0x8A (R167). -/
def execAdcA_D (s : State) : StepOut := .next (aluInstr .adc (.reg .D) s)

/-- ADC A,E, 0x8B (R167). -/
def execAdcA_E (s : State) : StepOut := .next (aluInstr .adc (.reg .E) s)

/-- ADC A,H, 0x8C (R167). -/
def execAdcA_H (s : State) : StepOut := .next (aluInstr .adc (.reg .H) s)

/-- ADC A,L, 0x8D (R167). -/
def execAdcA_L (s : State) : StepOut := .next (aluInstr .adc (.reg .L) s)

/-- ADC A,(HL), 0x8E (R168). -/
def execAdcA_atHL (s : State) : StepOut := .next (aluInstr .adc .atHL s)

/-- ADC A,A, 0x8F (R167). -/
def execAdcA_A (s : State) : StepOut := .next (aluInstr .adc (.reg .A) s)

/-- SUB A,B, 0x90 (R170). -/
def execSubA_B (s : State) : StepOut := .next (aluInstr .sub (.reg .B) s)

/-- SUB A,C, 0x91 (R170). -/
def execSubA_C (s : State) : StepOut := .next (aluInstr .sub (.reg .C) s)

/-- SUB A,D, 0x92 (R170). -/
def execSubA_D (s : State) : StepOut := .next (aluInstr .sub (.reg .D) s)

/-- SUB A,E, 0x93 (R170). -/
def execSubA_E (s : State) : StepOut := .next (aluInstr .sub (.reg .E) s)

/-- SUB A,H, 0x94 (R170). -/
def execSubA_H (s : State) : StepOut := .next (aluInstr .sub (.reg .H) s)

/-- SUB A,L, 0x95 (R170). -/
def execSubA_L (s : State) : StepOut := .next (aluInstr .sub (.reg .L) s)

/-- SUB A,(HL), 0x96 (R171). -/
def execSubA_atHL (s : State) : StepOut := .next (aluInstr .sub .atHL s)

/-- SUB A,A, 0x97 (R170). -/
def execSubA_A (s : State) : StepOut := .next (aluInstr .sub (.reg .A) s)

/-- ADD A,n, 0xC6 (R166). -/
def execAddA_n (s : State) : StepOut := .next (aluInstr .add .imm s)

/-- ADC A,n, 0xCE (R169). -/
def execAdcA_n (s : State) : StepOut := .next (aluInstr .adc .imm s)

/-- SUB A,n, 0xD6 (R172). -/
def execSubA_n (s : State) : StepOut := .next (aluInstr .sub .imm s)

end Sys2Proof.Machine
end

