-- ==== Sys2Proof/Machine/Control.lean ====
section
/-! DEFINITION. NOP, HALT, DI and EI: accepted opcodes with no effect but their cost (R200-R203). -/

namespace Sys2Proof.Machine

/-- NOP, 0x00 (R200). -/
def execNop (s : State) : StepOut := .next (charge 1 4 s)

/-- HALT, 0x76 (R201). -/
def execHalt (s : State) : StepOut := .next (charge 1 4 s)

/-- DI, 0xF3 (R202). -/
def execDi (s : State) : StepOut := .next (charge 1 4 s)

/-- EI, 0xFB (R203). -/
def execEi (s : State) : StepOut := .next (charge 1 4 s)

end Sys2Proof.Machine
end

