-- ==== Sys2Proof/Machine/Fatal.lean ====
section
/-! DEFINITION. The 98 opcodes with no implemented operation: each raises the fatal fault with its kind and its byte
(R231, R232), reading no operand (R77 for 0xCB). -/

namespace Sys2Proof.Machine

/-- INC BC, 0x03 (R231). -/
def execIncBC (s : State) : StepOut := raiseFatal .unimplemented 0x03#8 s

/-- INC B, 0x04 (R231). -/
def execIncB (s : State) : StepOut := raiseFatal .unimplemented 0x04#8 s

/-- DEC B, 0x05 (R231). -/
def execDecB (s : State) : StepOut := raiseFatal .unimplemented 0x05#8 s

/-- RLCA, 0x07 (R231). -/
def execRlca (s : State) : StepOut := raiseFatal .unimplemented 0x07#8 s

/-- ADD HL,BC, 0x09 (R231). -/
def execAddHL_BC (s : State) : StepOut := raiseFatal .unimplemented 0x09#8 s

/-- DEC BC, 0x0B (R231). -/
def execDecBC (s : State) : StepOut := raiseFatal .unimplemented 0x0B#8 s

/-- INC C, 0x0C (R231). -/
def execIncC (s : State) : StepOut := raiseFatal .unimplemented 0x0C#8 s

/-- DEC C, 0x0D (R231). -/
def execDecC (s : State) : StepOut := raiseFatal .unimplemented 0x0D#8 s

/-- RRCA, 0x0F (R231). -/
def execRrca (s : State) : StepOut := raiseFatal .unimplemented 0x0F#8 s

/-- STOP, 0x10 (R231). -/
def execStop (s : State) : StepOut := raiseFatal .unimplemented 0x10#8 s

/-- INC DE, 0x13 (R231). -/
def execIncDE (s : State) : StepOut := raiseFatal .unimplemented 0x13#8 s

/-- INC D, 0x14 (R231). -/
def execIncD (s : State) : StepOut := raiseFatal .unimplemented 0x14#8 s

/-- DEC D, 0x15 (R231). -/
def execDecD (s : State) : StepOut := raiseFatal .unimplemented 0x15#8 s

/-- RLA, 0x17 (R231). -/
def execRla (s : State) : StepOut := raiseFatal .unimplemented 0x17#8 s

/-- JR e, 0x18 (R231). -/
def execJrE (s : State) : StepOut := raiseFatal .unimplemented 0x18#8 s

/-- ADD HL,DE, 0x19 (R231). -/
def execAddHL_DE (s : State) : StepOut := raiseFatal .unimplemented 0x19#8 s

/-- DEC DE, 0x1B (R231). -/
def execDecDE (s : State) : StepOut := raiseFatal .unimplemented 0x1B#8 s

/-- INC E, 0x1C (R231). -/
def execIncE (s : State) : StepOut := raiseFatal .unimplemented 0x1C#8 s

/-- DEC E, 0x1D (R231). -/
def execDecE (s : State) : StepOut := raiseFatal .unimplemented 0x1D#8 s

/-- RRA, 0x1F (R231). -/
def execRra (s : State) : StepOut := raiseFatal .unimplemented 0x1F#8 s

/-- JR NZ,e, 0x20 (R231). -/
def execJrNZ_e (s : State) : StepOut := raiseFatal .unimplemented 0x20#8 s

/-- INC HL, 0x23 (R231). -/
def execIncHL (s : State) : StepOut := raiseFatal .unimplemented 0x23#8 s

/-- INC H, 0x24 (R231). -/
def execIncH (s : State) : StepOut := raiseFatal .unimplemented 0x24#8 s

/-- DEC H, 0x25 (R231). -/
def execDecH (s : State) : StepOut := raiseFatal .unimplemented 0x25#8 s

/-- DAA, 0x27 (R231). -/
def execDaa (s : State) : StepOut := raiseFatal .unimplemented 0x27#8 s

/-- JR Z,e, 0x28 (R231). -/
def execJrZ_e (s : State) : StepOut := raiseFatal .unimplemented 0x28#8 s

/-- ADD HL,HL, 0x29 (R231). -/
def execAddHL_HL (s : State) : StepOut := raiseFatal .unimplemented 0x29#8 s

/-- DEC HL, 0x2B (R231). -/
def execDecHL (s : State) : StepOut := raiseFatal .unimplemented 0x2B#8 s

/-- INC L, 0x2C (R231). -/
def execIncL (s : State) : StepOut := raiseFatal .unimplemented 0x2C#8 s

/-- DEC L, 0x2D (R231). -/
def execDecL (s : State) : StepOut := raiseFatal .unimplemented 0x2D#8 s

/-- CPL, 0x2F (R231). -/
def execCpl (s : State) : StepOut := raiseFatal .unimplemented 0x2F#8 s

/-- JR NC,e, 0x30 (R231). -/
def execJrNC_e (s : State) : StepOut := raiseFatal .unimplemented 0x30#8 s

/-- INC SP, 0x33 (R231). -/
def execIncSP (s : State) : StepOut := raiseFatal .unimplemented 0x33#8 s

/-- INC (HL), 0x34 (R231). -/
def execIncAtHL (s : State) : StepOut := raiseFatal .unimplemented 0x34#8 s

/-- DEC (HL), 0x35 (R231). -/
def execDecAtHL (s : State) : StepOut := raiseFatal .unimplemented 0x35#8 s

/-- SCF, 0x37 (R231). -/
def execScf (s : State) : StepOut := raiseFatal .unimplemented 0x37#8 s

/-- JR C,e, 0x38 (R231). -/
def execJrC_e (s : State) : StepOut := raiseFatal .unimplemented 0x38#8 s

/-- ADD HL,SP, 0x39 (R231). -/
def execAddHL_SP (s : State) : StepOut := raiseFatal .unimplemented 0x39#8 s

/-- DEC SP, 0x3B (R231). -/
def execDecSP (s : State) : StepOut := raiseFatal .unimplemented 0x3B#8 s

/-- INC A, 0x3C (R231). -/
def execIncA (s : State) : StepOut := raiseFatal .unimplemented 0x3C#8 s

/-- DEC A, 0x3D (R231). -/
def execDecA (s : State) : StepOut := raiseFatal .unimplemented 0x3D#8 s

/-- CCF, 0x3F (R231). -/
def execCcf (s : State) : StepOut := raiseFatal .unimplemented 0x3F#8 s

/-- SBC A,B, 0x98 (R231). -/
def execSbcA_B (s : State) : StepOut := raiseFatal .unimplemented 0x98#8 s

/-- SBC A,C, 0x99 (R231). -/
def execSbcA_C (s : State) : StepOut := raiseFatal .unimplemented 0x99#8 s

/-- SBC A,D, 0x9A (R231). -/
def execSbcA_D (s : State) : StepOut := raiseFatal .unimplemented 0x9A#8 s

/-- SBC A,E, 0x9B (R231). -/
def execSbcA_E (s : State) : StepOut := raiseFatal .unimplemented 0x9B#8 s

/-- SBC A,H, 0x9C (R231). -/
def execSbcA_H (s : State) : StepOut := raiseFatal .unimplemented 0x9C#8 s

/-- SBC A,L, 0x9D (R231). -/
def execSbcA_L (s : State) : StepOut := raiseFatal .unimplemented 0x9D#8 s

/-- SBC A,(HL), 0x9E (R231). -/
def execSbcA_atHL (s : State) : StepOut := raiseFatal .unimplemented 0x9E#8 s

/-- SBC A,A, 0x9F (R231). -/
def execSbcA_A (s : State) : StepOut := raiseFatal .unimplemented 0x9F#8 s

/-- CP B, 0xB8 (R231). -/
def execCpB (s : State) : StepOut := raiseFatal .unimplemented 0xB8#8 s

/-- CP C, 0xB9 (R231). -/
def execCpC (s : State) : StepOut := raiseFatal .unimplemented 0xB9#8 s

/-- CP D, 0xBA (R231). -/
def execCpD (s : State) : StepOut := raiseFatal .unimplemented 0xBA#8 s

/-- CP E, 0xBB (R231). -/
def execCpE (s : State) : StepOut := raiseFatal .unimplemented 0xBB#8 s

/-- CP H, 0xBC (R231). -/
def execCpH (s : State) : StepOut := raiseFatal .unimplemented 0xBC#8 s

/-- CP L, 0xBD (R231). -/
def execCpL (s : State) : StepOut := raiseFatal .unimplemented 0xBD#8 s

/-- CP (HL), 0xBE (R231). -/
def execCpAtHL (s : State) : StepOut := raiseFatal .unimplemented 0xBE#8 s

/-- CP A, 0xBF (R231). -/
def execCpA (s : State) : StepOut := raiseFatal .unimplemented 0xBF#8 s

/-- RET NZ, 0xC0 (R231). -/
def execRetNZ (s : State) : StepOut := raiseFatal .unimplemented 0xC0#8 s

/-- JP NZ,nn, 0xC2 (R231). -/
def execJpNZ_nn (s : State) : StepOut := raiseFatal .unimplemented 0xC2#8 s

/-- JP nn, 0xC3 (R231). -/
def execJpNN (s : State) : StepOut := raiseFatal .unimplemented 0xC3#8 s

/-- CALL NZ,nn, 0xC4 (R231). -/
def execCallNZ_nn (s : State) : StepOut := raiseFatal .unimplemented 0xC4#8 s

/-- RST 00H, 0xC7 (R231). -/
def execRst00H (s : State) : StepOut := raiseFatal .unimplemented 0xC7#8 s

/-- RET Z, 0xC8 (R231). -/
def execRetZ (s : State) : StepOut := raiseFatal .unimplemented 0xC8#8 s

/-- RET, 0xC9 (R231). -/
def execRet (s : State) : StepOut := raiseFatal .unimplemented 0xC9#8 s

/-- JP Z,nn, 0xCA (R231). -/
def execJpZ_nn (s : State) : StepOut := raiseFatal .unimplemented 0xCA#8 s

/-- CB prefix, 0xCB (R231). -/
def execCbPrefix (s : State) : StepOut := raiseFatal .unimplemented 0xCB#8 s

/-- CALL Z,nn, 0xCC (R231). -/
def execCallZ_nn (s : State) : StepOut := raiseFatal .unimplemented 0xCC#8 s

/-- CALL nn, 0xCD (R231). -/
def execCallNN (s : State) : StepOut := raiseFatal .unimplemented 0xCD#8 s

/-- RST 08H, 0xCF (R231). -/
def execRst08H (s : State) : StepOut := raiseFatal .unimplemented 0xCF#8 s

/-- RET NC, 0xD0 (R231). -/
def execRetNC (s : State) : StepOut := raiseFatal .unimplemented 0xD0#8 s

/-- JP NC,nn, 0xD2 (R231). -/
def execJpNC_nn (s : State) : StepOut := raiseFatal .unimplemented 0xD2#8 s

/-- no instruction, 0xD3 (R231). -/
def execNoneD3 (s : State) : StepOut := raiseFatal .unknown 0xD3#8 s

/-- CALL NC,nn, 0xD4 (R231). -/
def execCallNC_nn (s : State) : StepOut := raiseFatal .unimplemented 0xD4#8 s

/-- RST 10H, 0xD7 (R231). -/
def execRst10H (s : State) : StepOut := raiseFatal .unimplemented 0xD7#8 s

/-- RET C, 0xD8 (R231). -/
def execRetC (s : State) : StepOut := raiseFatal .unimplemented 0xD8#8 s

/-- RETI, 0xD9 (R231). -/
def execReti (s : State) : StepOut := raiseFatal .unimplemented 0xD9#8 s

/-- JP C,nn, 0xDA (R231). -/
def execJpC_nn (s : State) : StepOut := raiseFatal .unimplemented 0xDA#8 s

/-- no instruction, 0xDB (R231). -/
def execNoneDB (s : State) : StepOut := raiseFatal .unknown 0xDB#8 s

/-- CALL C,nn, 0xDC (R231). -/
def execCallC_nn (s : State) : StepOut := raiseFatal .unimplemented 0xDC#8 s

/-- no instruction, 0xDD (R231). -/
def execNoneDD (s : State) : StepOut := raiseFatal .unknown 0xDD#8 s

/-- SBC A,n, 0xDE (R231). -/
def execSbcA_n (s : State) : StepOut := raiseFatal .unimplemented 0xDE#8 s

/-- RST 18H, 0xDF (R231). -/
def execRst18H (s : State) : StepOut := raiseFatal .unimplemented 0xDF#8 s

/-- no instruction, 0xE3 (R231). -/
def execNoneE3 (s : State) : StepOut := raiseFatal .unknown 0xE3#8 s

/-- no instruction, 0xE4 (R231). -/
def execNoneE4 (s : State) : StepOut := raiseFatal .unknown 0xE4#8 s

/-- RST 20H, 0xE7 (R231). -/
def execRst20H (s : State) : StepOut := raiseFatal .unimplemented 0xE7#8 s

/-- ADD SP,e, 0xE8 (R231). -/
def execAddSP_e (s : State) : StepOut := raiseFatal .unimplemented 0xE8#8 s

/-- JP (HL), 0xE9 (R231). -/
def execJpAtHL (s : State) : StepOut := raiseFatal .unimplemented 0xE9#8 s

/-- no instruction, 0xEB (R231). -/
def execNoneEB (s : State) : StepOut := raiseFatal .unknown 0xEB#8 s

/-- no instruction, 0xEC (R231). -/
def execNoneEC (s : State) : StepOut := raiseFatal .unknown 0xEC#8 s

/-- no instruction, 0xED (R231). -/
def execNoneED (s : State) : StepOut := raiseFatal .unknown 0xED#8 s

/-- RST 28H, 0xEF (R231). -/
def execRst28H (s : State) : StepOut := raiseFatal .unimplemented 0xEF#8 s

/-- no instruction, 0xF4 (R231). -/
def execNoneF4 (s : State) : StepOut := raiseFatal .unknown 0xF4#8 s

/-- RST 30H, 0xF7 (R231). -/
def execRst30H (s : State) : StepOut := raiseFatal .unimplemented 0xF7#8 s

/-- no instruction, 0xFC (R231). -/
def execNoneFC (s : State) : StepOut := raiseFatal .unknown 0xFC#8 s

/-- no instruction, 0xFD (R231). -/
def execNoneFD (s : State) : StepOut := raiseFatal .unknown 0xFD#8 s

/-- CP n, 0xFE (R231). -/
def execCpN (s : State) : StepOut := raiseFatal .unimplemented 0xFE#8 s

/-- RST 38H, 0xFF (R231). -/
def execRst38H (s : State) : StepOut := raiseFatal .unimplemented 0xFF#8 s

end Sys2Proof.Machine
end

