-- ==== Sys2Proof/Machine/Load16.lean ====
section
/-! DEFINITION. The 16-bit loads (R130-R135): the shared operations, one per rule, then one meaning per opcode. -/

namespace Sys2Proof.Machine

/-- The two bytes of LD rr,nn into the pair in the order of `P_LDRR_ORDER` (R130). -/
def writePairBytes (order : LdrrOrder) (p : Pair) (b1 b2 : Byte) (s : State) : State :=
  match order with
  | .highFirst => writeReg (pairLo p) b2 (writeReg (pairHi p) b1 s)
  | .lowFirst => writeReg (pairHi p) b2 (writeReg (pairLo p) b1 s)

/-- `LD BC,nn`, `LD DE,nn`, `LD HL,nn`: two byte reads, pc and pc + 1, then pc + 2 (R130). -/
def loadPairImm (p : MainPair) (s : State) : State :=
  let b1 := memRead1 s.pc s
  let b2 := memRead1 (s.pc + 1#16) b1.2
  charge 3 12 (writePairBytes s.cfg.ldrrOrder (mainPair p) b1.1 b2.1 (advancePc 2#16 b2.2))

/-- `LD SP,nn` (R131). -/
def loadSpImm (s : State) : State :=
  let nn := fetch16 s
  charge 3 12 (setSp nn.1 nn.2)

/-- `LD SP,HL` (R132). -/
def loadSpHL (s : State) : State := charge 2 8 (setSp (readPair .HL s) s)

/-- `LD (nn),SP` (R133). -/
def storeSpAbs (s : State) : State :=
  let a := fetch16 s
  charge 5 20 (memWrite2 a.1 a.2.sp a.2)

/-- `LDHL SP,n` under `P_LDHL_SIGNED` (R134). -/
def loadHLSpImm (s : State) : State :=
  let n := fetch8 s
  let o := ldhlOf s.cfg.ldhlSigned n.2.sp n.1
  charge 3 12 (setFlags false false o.h o.c (writePair .HL o.res n.2))

/-- LD BC,nn, 0x01 (R130). -/
def execLdBC_nn (s : State) : StepOut := .next (loadPairImm .BC s)

/-- LD (nn),SP, 0x08 (R133). -/
def execLdAtNN_SP (s : State) : StepOut := .next (storeSpAbs s)

/-- LD DE,nn, 0x11 (R130). -/
def execLdDE_nn (s : State) : StepOut := .next (loadPairImm .DE s)

/-- LD HL,nn, 0x21 (R130). -/
def execLdHL_nn (s : State) : StepOut := .next (loadPairImm .HL s)

/-- LD SP,nn, 0x31 (R131). -/
def execLdSP_nn (s : State) : StepOut := .next (loadSpImm s)

/-- LDHL SP,n, 0xF8 (R134). -/
def execLdhlSP_n (s : State) : StepOut := .next (loadHLSpImm s)

/-- LD SP,HL, 0xF9 (R132). -/
def execLdSP_HL (s : State) : StepOut := .next (loadSpHL s)

end Sys2Proof.Machine
end

