-- ==== Sys2Proof/Machine/Load8.lean ====
section
/-! DEFINITION. The 8-bit loads (R100-R120): the shared operations, one per rule, then one meaning per opcode. -/

namespace Sys2Proof.Machine

/-- `LD r,r'` (R100). -/
def loadRegReg (d r : Opnd) (s : State) : State := charge 1 4 (writeOpnd d (readOpnd r s) s)

/-- `LD r,n` (R101). -/
def loadRegImm (d : Opnd) (s : State) : State :=
  let n := fetch8 s
  charge 2 8 (writeOpnd d n.1 n.2)

/-- A byte load into an operand register from an address formed before the write (R102, R105, R106, R111). -/
def loadRegAt (d : Opnd) (addr : Word) (s : State) : State :=
  let v := memRead1 addr s
  charge 2 8 (writeOpnd d v.1 v.2)

/-- A byte store of an operand register at an address (R103, R107, R108, R112). -/
def storeRegAt (r : Opnd) (addr : Word) (s : State) : State := charge 2 8 (memWrite1 addr (readOpnd r s) s)

/-- `LD (HL),n` (R104). -/
def storeImmAtHL (s : State) : State :=
  let n := fetch8 s
  charge 3 12 (memWrite1 (readPair .HL n.2) n.1 n.2)

/-- `LD A,(nn)` (R109). -/
def loadAAbs (s : State) : State :=
  let a := fetch16 s
  let v := memRead1 a.1 a.2
  charge 4 16 (writeReg .A v.1 v.2)

/-- `LD (nn),A` (R110). -/
def storeAAbs (s : State) : State :=
  let a := fetch16 s
  charge 4 16 (memWrite1 a.1 (readReg .A a.2) a.2)

/-- `LDI (HL),A` and `LDD (HL),A`: the store uses HL before the step of HL (R114, R116). -/
def storeAThen (stepHL : State → State) (s : State) : State :=
  charge 2 8 (stepHL (memWrite1 (readPair .HL s) (readReg .A s) s))

/-- `LDI A,(HL)` and `LDD A,(HL)` (R115, R117). -/
def loadAThen (stepHL : State → State) (s : State) : State :=
  let v := memRead1 (readPair .HL s) s
  charge 2 8 (stepHL (writeReg .A v.1 v.2))

/-- `LDH (n),A` under `P_LDH_EA` (R118): under `PC_PAGE` byte 1 is skipped, not read. -/
def storeAHigh (s : State) : State :=
  match s.cfg.ldhEa with
  | .pcPage => charge 3 12 (advancePc 1#16 (memWrite1 (pcPageAddr s) (readReg .A s) s))
  | .immOffset =>
    let n := fetch8 s
    charge 3 12 (memWrite1 (highPage n.1) (readReg .A n.2) n.2)

/-- `LDH A,(n)` under `P_LDH_EA` (R119). -/
def loadAHigh (s : State) : State :=
  match s.cfg.ldhEa with
  | .pcPage =>
    let v := memRead1 (pcPageAddr s) s
    charge 3 12 (advancePc 1#16 (writeReg .A v.1 v.2))
  | .immOffset =>
    let n := fetch8 s
    let v := memRead1 (highPage n.1) n.2
    charge 3 12 (writeReg .A v.1 v.2)

/-- LD (BC),A, 0x02 (R107). -/
def execLdAtBC_A (s : State) : StepOut := .next (storeRegAt .A (readPair .BC s) s)

/-- LD B,n, 0x06 (R101). -/
def execLdB_n (s : State) : StepOut := .next (loadRegImm .B s)

/-- LD A,(BC), 0x0A (R105). -/
def execLdA_atBC (s : State) : StepOut := .next (loadRegAt .A (readPair .BC s) s)

/-- LD C,n, 0x0E (R101). -/
def execLdC_n (s : State) : StepOut := .next (loadRegImm .C s)

/-- LD (DE),A, 0x12 (R108). -/
def execLdAtDE_A (s : State) : StepOut := .next (storeRegAt .A (readPair .DE s) s)

/-- LD D,n, 0x16 (R101). -/
def execLdD_n (s : State) : StepOut := .next (loadRegImm .D s)

/-- LD A,(DE), 0x1A (R106). -/
def execLdA_atDE (s : State) : StepOut := .next (loadRegAt .A (readPair .DE s) s)

/-- LD E,n, 0x1E (R101). -/
def execLdE_n (s : State) : StepOut := .next (loadRegImm .E s)

/-- LDI (HL),A, 0x22 (R114). -/
def execLdiAtHL_A (s : State) : StepOut := .next (storeAThen hlInc s)

/-- LD H,n, 0x26 (R101). -/
def execLdH_n (s : State) : StepOut := .next (loadRegImm .H s)

/-- LDI A,(HL), 0x2A (R115). -/
def execLdiA_atHL (s : State) : StepOut := .next (loadAThen hlInc s)

/-- LD L,n, 0x2E (R101). -/
def execLdL_n (s : State) : StepOut := .next (loadRegImm .L s)

/-- LDD (HL),A, 0x32 (R116). -/
def execLddAtHL_A (s : State) : StepOut := .next (storeAThen hlDec s)

/-- LD (HL),n, 0x36 (R104). -/
def execLdAtHL_n (s : State) : StepOut := .next (storeImmAtHL s)

/-- LDD A,(HL), 0x3A (R117). -/
def execLddA_atHL (s : State) : StepOut := .next (loadAThen hlDec s)

/-- LD A,n, 0x3E (R101). -/
def execLdA_n (s : State) : StepOut := .next (loadRegImm .A s)

/-- LD B,B, 0x40 (R100). -/
def execLdB_B (s : State) : StepOut := .next (loadRegReg .B .B s)

/-- LD B,C, 0x41 (R100). -/
def execLdB_C (s : State) : StepOut := .next (loadRegReg .B .C s)

/-- LD B,D, 0x42 (R100). -/
def execLdB_D (s : State) : StepOut := .next (loadRegReg .B .D s)

/-- LD B,E, 0x43 (R100). -/
def execLdB_E (s : State) : StepOut := .next (loadRegReg .B .E s)

/-- LD B,H, 0x44 (R100). -/
def execLdB_H (s : State) : StepOut := .next (loadRegReg .B .H s)

/-- LD B,L, 0x45 (R100). -/
def execLdB_L (s : State) : StepOut := .next (loadRegReg .B .L s)

/-- LD B,(HL), 0x46 (R102). -/
def execLdB_atHL (s : State) : StepOut := .next (loadRegAt .B (readPair .HL s) s)

/-- LD B,A, 0x47 (R100). -/
def execLdB_A (s : State) : StepOut := .next (loadRegReg .B .A s)

/-- LD C,B, 0x48 (R100). -/
def execLdC_B (s : State) : StepOut := .next (loadRegReg .C .B s)

/-- LD C,C, 0x49 (R100). -/
def execLdC_C (s : State) : StepOut := .next (loadRegReg .C .C s)

/-- LD C,D, 0x4A (R100). -/
def execLdC_D (s : State) : StepOut := .next (loadRegReg .C .D s)

/-- LD C,E, 0x4B (R100). -/
def execLdC_E (s : State) : StepOut := .next (loadRegReg .C .E s)

/-- LD C,H, 0x4C (R100). -/
def execLdC_H (s : State) : StepOut := .next (loadRegReg .C .H s)

/-- LD C,L, 0x4D (R100). -/
def execLdC_L (s : State) : StepOut := .next (loadRegReg .C .L s)

/-- LD C,(HL), 0x4E (R102). -/
def execLdC_atHL (s : State) : StepOut := .next (loadRegAt .C (readPair .HL s) s)

/-- LD C,A, 0x4F (R100). -/
def execLdC_A (s : State) : StepOut := .next (loadRegReg .C .A s)

/-- LD D,B, 0x50 (R100). -/
def execLdD_B (s : State) : StepOut := .next (loadRegReg .D .B s)

/-- LD D,C, 0x51 (R100). -/
def execLdD_C (s : State) : StepOut := .next (loadRegReg .D .C s)

/-- LD D,D, 0x52 (R100). -/
def execLdD_D (s : State) : StepOut := .next (loadRegReg .D .D s)

/-- LD D,E, 0x53 (R100). -/
def execLdD_E (s : State) : StepOut := .next (loadRegReg .D .E s)

/-- LD D,H, 0x54 (R100). -/
def execLdD_H (s : State) : StepOut := .next (loadRegReg .D .H s)

/-- LD D,L, 0x55 (R100). -/
def execLdD_L (s : State) : StepOut := .next (loadRegReg .D .L s)

/-- LD D,(HL), 0x56 (R102). -/
def execLdD_atHL (s : State) : StepOut := .next (loadRegAt .D (readPair .HL s) s)

/-- LD D,A, 0x57 (R100). -/
def execLdD_A (s : State) : StepOut := .next (loadRegReg .D .A s)

/-- LD E,B, 0x58 (R100). -/
def execLdE_B (s : State) : StepOut := .next (loadRegReg .E .B s)

/-- LD E,C, 0x59 (R100). -/
def execLdE_C (s : State) : StepOut := .next (loadRegReg .E .C s)

/-- LD E,D, 0x5A (R100). -/
def execLdE_D (s : State) : StepOut := .next (loadRegReg .E .D s)

/-- LD E,E, 0x5B (R100). -/
def execLdE_E (s : State) : StepOut := .next (loadRegReg .E .E s)

/-- LD E,H, 0x5C (R100). -/
def execLdE_H (s : State) : StepOut := .next (loadRegReg .E .H s)

/-- LD E,L, 0x5D (R100). -/
def execLdE_L (s : State) : StepOut := .next (loadRegReg .E .L s)

/-- LD E,(HL), 0x5E (R102). -/
def execLdE_atHL (s : State) : StepOut := .next (loadRegAt .E (readPair .HL s) s)

/-- LD E,A, 0x5F (R100). -/
def execLdE_A (s : State) : StepOut := .next (loadRegReg .E .A s)

/-- LD H,B, 0x60 (R100). -/
def execLdH_B (s : State) : StepOut := .next (loadRegReg .H .B s)

/-- LD H,C, 0x61 (R100). -/
def execLdH_C (s : State) : StepOut := .next (loadRegReg .H .C s)

/-- LD H,D, 0x62 (R100). -/
def execLdH_D (s : State) : StepOut := .next (loadRegReg .H .D s)

/-- LD H,E, 0x63 (R100). -/
def execLdH_E (s : State) : StepOut := .next (loadRegReg .H .E s)

/-- LD H,H, 0x64 (R100). -/
def execLdH_H (s : State) : StepOut := .next (loadRegReg .H .H s)

/-- LD H,L, 0x65 (R100). -/
def execLdH_L (s : State) : StepOut := .next (loadRegReg .H .L s)

/-- LD H,(HL), 0x66 (R102). -/
def execLdH_atHL (s : State) : StepOut := .next (loadRegAt .H (readPair .HL s) s)

/-- LD H,A, 0x67 (R100). -/
def execLdH_A (s : State) : StepOut := .next (loadRegReg .H .A s)

/-- LD L,B, 0x68 (R100). -/
def execLdL_B (s : State) : StepOut := .next (loadRegReg .L .B s)

/-- LD L,C, 0x69 (R100). -/
def execLdL_C (s : State) : StepOut := .next (loadRegReg .L .C s)

/-- LD L,D, 0x6A (R100). -/
def execLdL_D (s : State) : StepOut := .next (loadRegReg .L .D s)

/-- LD L,E, 0x6B (R100). -/
def execLdL_E (s : State) : StepOut := .next (loadRegReg .L .E s)

/-- LD L,H, 0x6C (R100). -/
def execLdL_H (s : State) : StepOut := .next (loadRegReg .L .H s)

/-- LD L,L, 0x6D (R100). -/
def execLdL_L (s : State) : StepOut := .next (loadRegReg .L .L s)

/-- LD L,(HL), 0x6E (R102). -/
def execLdL_atHL (s : State) : StepOut := .next (loadRegAt .L (readPair .HL s) s)

/-- LD L,A, 0x6F (R100). -/
def execLdL_A (s : State) : StepOut := .next (loadRegReg .L .A s)

/-- LD (HL),B, 0x70 (R103). -/
def execLdAtHL_B (s : State) : StepOut := .next (storeRegAt .B (readPair .HL s) s)

/-- LD (HL),C, 0x71 (R103). -/
def execLdAtHL_C (s : State) : StepOut := .next (storeRegAt .C (readPair .HL s) s)

/-- LD (HL),D, 0x72 (R103). -/
def execLdAtHL_D (s : State) : StepOut := .next (storeRegAt .D (readPair .HL s) s)

/-- LD (HL),E, 0x73 (R103). -/
def execLdAtHL_E (s : State) : StepOut := .next (storeRegAt .E (readPair .HL s) s)

/-- LD (HL),H, 0x74 (R103). -/
def execLdAtHL_H (s : State) : StepOut := .next (storeRegAt .H (readPair .HL s) s)

/-- LD (HL),L, 0x75 (R103). -/
def execLdAtHL_L (s : State) : StepOut := .next (storeRegAt .L (readPair .HL s) s)

/-- LD (HL),A, 0x77 (R103). -/
def execLdAtHL_A (s : State) : StepOut := .next (storeRegAt .A (readPair .HL s) s)

/-- LD A,B, 0x78 (R100). -/
def execLdA_B (s : State) : StepOut := .next (loadRegReg .A .B s)

/-- LD A,C, 0x79 (R100). -/
def execLdA_C (s : State) : StepOut := .next (loadRegReg .A .C s)

/-- LD A,D, 0x7A (R100). -/
def execLdA_D (s : State) : StepOut := .next (loadRegReg .A .D s)

/-- LD A,E, 0x7B (R100). -/
def execLdA_E (s : State) : StepOut := .next (loadRegReg .A .E s)

/-- LD A,H, 0x7C (R100). -/
def execLdA_H (s : State) : StepOut := .next (loadRegReg .A .H s)

/-- LD A,L, 0x7D (R100). -/
def execLdA_L (s : State) : StepOut := .next (loadRegReg .A .L s)

/-- LD A,(HL), 0x7E (R102). -/
def execLdA_atHL (s : State) : StepOut := .next (loadRegAt .A (readPair .HL s) s)

/-- LD A,A, 0x7F (R100). -/
def execLdA_A (s : State) : StepOut := .next (loadRegReg .A .A s)

/-- LDH (n),A, 0xE0 (R118). -/
def execLdhAtN_A (s : State) : StepOut := .next (storeAHigh s)

/-- LD (0xFF00+C),A, 0xE2 (R112). -/
def execLdAtHighC_A (s : State) : StepOut := .next (storeRegAt .A (highPage (readReg .C s)) s)

/-- LD (nn),A, 0xEA (R110). -/
def execLdAtNN_A (s : State) : StepOut := .next (storeAAbs s)

/-- LDH A,(n), 0xF0 (R119). -/
def execLdhA_atN (s : State) : StepOut := .next (loadAHigh s)

/-- LD A,(0xFF00+C), 0xF2 (R111). -/
def execLdA_atHighC (s : State) : StepOut := .next (loadRegAt .A (highPage (readReg .C s)) s)

/-- LD A,(nn), 0xFA (R109). -/
def execLdA_atNN (s : State) : StepOut := .next (loadAAbs s)

end Sys2Proof.Machine
end

