-- ==== Sys2Proof/Machine/Logical.lean ====
section
/-! DEFINITION. AND, OR, XOR (R180-R190): one meaning per opcode over the shared ALU shape. -/

namespace Sys2Proof.Machine

/-- AND A,B, 0xA0 (R181). -/
def execAndA_B (s : State) : StepOut := .next (aluInstr .and (.reg .B) s)

/-- AND A,C, 0xA1 (R181). -/
def execAndA_C (s : State) : StepOut := .next (aluInstr .and (.reg .C) s)

/-- AND A,D, 0xA2 (R181). -/
def execAndA_D (s : State) : StepOut := .next (aluInstr .and (.reg .D) s)

/-- AND A,E, 0xA3 (R181). -/
def execAndA_E (s : State) : StepOut := .next (aluInstr .and (.reg .E) s)

/-- AND A,H, 0xA4 (R181). -/
def execAndA_H (s : State) : StepOut := .next (aluInstr .and (.reg .H) s)

/-- AND A,L, 0xA5 (R181). -/
def execAndA_L (s : State) : StepOut := .next (aluInstr .and (.reg .L) s)

/-- AND A,(HL), 0xA6 (R182). -/
def execAndA_atHL (s : State) : StepOut := .next (aluInstr .and .atHL s)

/-- AND A,A, 0xA7 (R181). -/
def execAndA_A (s : State) : StepOut := .next (aluInstr .and (.reg .A) s)

/-- XOR A,B, 0xA8 (R187). -/
def execXorA_B (s : State) : StepOut := .next (aluInstr .xor (.reg .B) s)

/-- XOR A,C, 0xA9 (R187). -/
def execXorA_C (s : State) : StepOut := .next (aluInstr .xor (.reg .C) s)

/-- XOR A,D, 0xAA (R187). -/
def execXorA_D (s : State) : StepOut := .next (aluInstr .xor (.reg .D) s)

/-- XOR A,E, 0xAB (R187). -/
def execXorA_E (s : State) : StepOut := .next (aluInstr .xor (.reg .E) s)

/-- XOR A,H, 0xAC (R187). -/
def execXorA_H (s : State) : StepOut := .next (aluInstr .xor (.reg .H) s)

/-- XOR A,L, 0xAD (R187). -/
def execXorA_L (s : State) : StepOut := .next (aluInstr .xor (.reg .L) s)

/-- XOR A,(HL), 0xAE (R188). -/
def execXorA_atHL (s : State) : StepOut := .next (aluInstr .xor .atHL s)

/-- XOR A,A, 0xAF (R187). -/
def execXorA_A (s : State) : StepOut := .next (aluInstr .xor (.reg .A) s)

/-- OR A,B, 0xB0 (R184). -/
def execOrA_B (s : State) : StepOut := .next (aluInstr .or (.reg .B) s)

/-- OR A,C, 0xB1 (R184). -/
def execOrA_C (s : State) : StepOut := .next (aluInstr .or (.reg .C) s)

/-- OR A,D, 0xB2 (R184). -/
def execOrA_D (s : State) : StepOut := .next (aluInstr .or (.reg .D) s)

/-- OR A,E, 0xB3 (R184). -/
def execOrA_E (s : State) : StepOut := .next (aluInstr .or (.reg .E) s)

/-- OR A,H, 0xB4 (R184). -/
def execOrA_H (s : State) : StepOut := .next (aluInstr .or (.reg .H) s)

/-- OR A,L, 0xB5 (R184). -/
def execOrA_L (s : State) : StepOut := .next (aluInstr .or (.reg .L) s)

/-- OR A,(HL), 0xB6 (R185). -/
def execOrA_atHL (s : State) : StepOut := .next (aluInstr .or .atHL s)

/-- OR A,A, 0xB7 (R184). -/
def execOrA_A (s : State) : StepOut := .next (aluInstr .or (.reg .A) s)

/-- AND A,n, 0xE6 (R183). -/
def execAndA_n (s : State) : StepOut := .next (aluInstr .and .imm s)

/-- XOR A,n, 0xEE (R189). -/
def execXorA_n (s : State) : StepOut := .next (aluInstr .xor .imm s)

/-- OR A,n, 0xF6 (R186). -/
def execOrA_n (s : State) : StepOut := .next (aluInstr .or .imm s)

end Sys2Proof.Machine
end

