-- ==== Sys2Proof/Machine/Stack.lean ====
section
/-! DEFINITION. The stack (R150-R153): PUSH and POP over the byte writes and reads they make, then one meaning per
opcode. SP arithmetic is modulo 2^16, with no limit check (R153). -/

namespace Sys2Proof.Machine

/-- `sp <- sp - 1; MemWrite(sp, 1, v)` (R150). -/
def pushByte (v : Byte) (s : State) : State :=
  let s1 := setSp (s.sp - 1#16) s
  memWrite1 s1.sp v s1

/-- `MemRead(sp, 1); sp <- sp + 1` (R151). -/
def popByte (s : State) : Byte × State :=
  let v := memRead1 s.sp s
  (v.1, setSp (v.2.sp + 1#16) v.2)

/-- `PUSH rr`: the high byte first, at the higher address (R150). -/
def pushPair (p : Pair) (s : State) : State :=
  let s2 := pushByte (readReg (pairLo p) s) (pushByte (readReg (pairHi p) s) s)
  charge (pushCycles s.cfg.pushCost).m (pushCycles s.cfg.pushCost).t s2

/-- `POP rr`: the low byte first (R151); for AF the byte written to F has its low nibble forced to 0 (R152), which
`writeReg` does for every write of F. -/
def popPair (p : Pair) (s : State) : State :=
  let lo := popByte s
  let hi := popByte (writeReg (pairLo p) lo.1 lo.2)
  charge 3 12 (writeReg (pairHi p) hi.1 hi.2)

/-- POP BC, 0xC1 (R151). -/
def execPopBC (s : State) : StepOut := .next (popPair .BC s)

/-- PUSH BC, 0xC5 (R150). -/
def execPushBC (s : State) : StepOut := .next (pushPair .BC s)

/-- POP DE, 0xD1 (R151). -/
def execPopDE (s : State) : StepOut := .next (popPair .DE s)

/-- PUSH DE, 0xD5 (R150). -/
def execPushDE (s : State) : StepOut := .next (pushPair .DE s)

/-- POP HL, 0xE1 (R151). -/
def execPopHL (s : State) : StepOut := .next (popPair .HL s)

/-- PUSH HL, 0xE5 (R150). -/
def execPushHL (s : State) : StepOut := .next (pushPair .HL s)

/-- POP AF, 0xF1 (R152). -/
def execPopAF (s : State) : StepOut := .next (popPair .AF s)

/-- PUSH AF, 0xF5 (R150). -/
def execPushAF (s : State) : StepOut := .next (pushPair .AF s)

end Sys2Proof.Machine
end

