-- ==== Sys2Proof/Machine/Dispatch.lean ====
section
/-! DEFINITION. The dispatcher's fixed table (R212): one arm per opcode, one call of its meaning. -/

namespace Sys2Proof.Machine

def exec (i : Instr) (s : State) : Host.Outcome State Fault Refusal :=
  match i with
  | .nop => Sys2Proof.Machine.execNop s
  | .ldBC_nn => Sys2Proof.Machine.execLdBC_nn s
  | .ldAtBC_A => Sys2Proof.Machine.execLdAtBC_A s
  | .incBC => Sys2Proof.Machine.execIncBC s
  | .incB => Sys2Proof.Machine.execIncB s
  | .decB => Sys2Proof.Machine.execDecB s
  | .ldB_n => Sys2Proof.Machine.execLdB_n s
  | .rlca => Sys2Proof.Machine.execRlca s
  | .ldAtNN_SP => Sys2Proof.Machine.execLdAtNN_SP s
  | .addHL_BC => Sys2Proof.Machine.execAddHL_BC s
  | .ldA_atBC => Sys2Proof.Machine.execLdA_atBC s
  | .decBC => Sys2Proof.Machine.execDecBC s
  | .incC => Sys2Proof.Machine.execIncC s
  | .decC => Sys2Proof.Machine.execDecC s
  | .ldC_n => Sys2Proof.Machine.execLdC_n s
  | .rrca => Sys2Proof.Machine.execRrca s
  | .stop => Sys2Proof.Machine.execStop s
  | .ldDE_nn => Sys2Proof.Machine.execLdDE_nn s
  | .ldAtDE_A => Sys2Proof.Machine.execLdAtDE_A s
  | .incDE => Sys2Proof.Machine.execIncDE s
  | .incD => Sys2Proof.Machine.execIncD s
  | .decD => Sys2Proof.Machine.execDecD s
  | .ldD_n => Sys2Proof.Machine.execLdD_n s
  | .rla => Sys2Proof.Machine.execRla s
  | .jrE => Sys2Proof.Machine.execJrE s
  | .addHL_DE => Sys2Proof.Machine.execAddHL_DE s
  | .ldA_atDE => Sys2Proof.Machine.execLdA_atDE s
  | .decDE => Sys2Proof.Machine.execDecDE s
  | .incE => Sys2Proof.Machine.execIncE s
  | .decE => Sys2Proof.Machine.execDecE s
  | .ldE_n => Sys2Proof.Machine.execLdE_n s
  | .rra => Sys2Proof.Machine.execRra s
  | .jrNZ_e => Sys2Proof.Machine.execJrNZ_e s
  | .ldHL_nn => Sys2Proof.Machine.execLdHL_nn s
  | .ldiAtHL_A => Sys2Proof.Machine.execLdiAtHL_A s
  | .incHL => Sys2Proof.Machine.execIncHL s
  | .incH => Sys2Proof.Machine.execIncH s
  | .decH => Sys2Proof.Machine.execDecH s
  | .ldH_n => Sys2Proof.Machine.execLdH_n s
  | .daa => Sys2Proof.Machine.execDaa s
  | .jrZ_e => Sys2Proof.Machine.execJrZ_e s
  | .addHL_HL => Sys2Proof.Machine.execAddHL_HL s
  | .ldiA_atHL => Sys2Proof.Machine.execLdiA_atHL s
  | .decHL => Sys2Proof.Machine.execDecHL s
  | .incL => Sys2Proof.Machine.execIncL s
  | .decL => Sys2Proof.Machine.execDecL s
  | .ldL_n => Sys2Proof.Machine.execLdL_n s
  | .cpl => Sys2Proof.Machine.execCpl s
  | .jrNC_e => Sys2Proof.Machine.execJrNC_e s
  | .ldSP_nn => Sys2Proof.Machine.execLdSP_nn s
  | .lddAtHL_A => Sys2Proof.Machine.execLddAtHL_A s
  | .incSP => Sys2Proof.Machine.execIncSP s
  | .incAtHL => Sys2Proof.Machine.execIncAtHL s
  | .decAtHL => Sys2Proof.Machine.execDecAtHL s
  | .ldAtHL_n => Sys2Proof.Machine.execLdAtHL_n s
  | .scf => Sys2Proof.Machine.execScf s
  | .jrC_e => Sys2Proof.Machine.execJrC_e s
  | .addHL_SP => Sys2Proof.Machine.execAddHL_SP s
  | .lddA_atHL => Sys2Proof.Machine.execLddA_atHL s
  | .decSP => Sys2Proof.Machine.execDecSP s
  | .incA => Sys2Proof.Machine.execIncA s
  | .decA => Sys2Proof.Machine.execDecA s
  | .ldA_n => Sys2Proof.Machine.execLdA_n s
  | .ccf => Sys2Proof.Machine.execCcf s
  | .ldB_B => Sys2Proof.Machine.execLdB_B s
  | .ldB_C => Sys2Proof.Machine.execLdB_C s
  | .ldB_D => Sys2Proof.Machine.execLdB_D s
  | .ldB_E => Sys2Proof.Machine.execLdB_E s
  | .ldB_H => Sys2Proof.Machine.execLdB_H s
  | .ldB_L => Sys2Proof.Machine.execLdB_L s
  | .ldB_atHL => Sys2Proof.Machine.execLdB_atHL s
  | .ldB_A => Sys2Proof.Machine.execLdB_A s
  | .ldC_B => Sys2Proof.Machine.execLdC_B s
  | .ldC_C => Sys2Proof.Machine.execLdC_C s
  | .ldC_D => Sys2Proof.Machine.execLdC_D s
  | .ldC_E => Sys2Proof.Machine.execLdC_E s
  | .ldC_H => Sys2Proof.Machine.execLdC_H s
  | .ldC_L => Sys2Proof.Machine.execLdC_L s
  | .ldC_atHL => Sys2Proof.Machine.execLdC_atHL s
  | .ldC_A => Sys2Proof.Machine.execLdC_A s
  | .ldD_B => Sys2Proof.Machine.execLdD_B s
  | .ldD_C => Sys2Proof.Machine.execLdD_C s
  | .ldD_D => Sys2Proof.Machine.execLdD_D s
  | .ldD_E => Sys2Proof.Machine.execLdD_E s
  | .ldD_H => Sys2Proof.Machine.execLdD_H s
  | .ldD_L => Sys2Proof.Machine.execLdD_L s
  | .ldD_atHL => Sys2Proof.Machine.execLdD_atHL s
  | .ldD_A => Sys2Proof.Machine.execLdD_A s
  | .ldE_B => Sys2Proof.Machine.execLdE_B s
  | .ldE_C => Sys2Proof.Machine.execLdE_C s
  | .ldE_D => Sys2Proof.Machine.execLdE_D s
  | .ldE_E => Sys2Proof.Machine.execLdE_E s
  | .ldE_H => Sys2Proof.Machine.execLdE_H s
  | .ldE_L => Sys2Proof.Machine.execLdE_L s
  | .ldE_atHL => Sys2Proof.Machine.execLdE_atHL s
  | .ldE_A => Sys2Proof.Machine.execLdE_A s
  | .ldH_B => Sys2Proof.Machine.execLdH_B s
  | .ldH_C => Sys2Proof.Machine.execLdH_C s
  | .ldH_D => Sys2Proof.Machine.execLdH_D s
  | .ldH_E => Sys2Proof.Machine.execLdH_E s
  | .ldH_H => Sys2Proof.Machine.execLdH_H s
  | .ldH_L => Sys2Proof.Machine.execLdH_L s
  | .ldH_atHL => Sys2Proof.Machine.execLdH_atHL s
  | .ldH_A => Sys2Proof.Machine.execLdH_A s
  | .ldL_B => Sys2Proof.Machine.execLdL_B s
  | .ldL_C => Sys2Proof.Machine.execLdL_C s
  | .ldL_D => Sys2Proof.Machine.execLdL_D s
  | .ldL_E => Sys2Proof.Machine.execLdL_E s
  | .ldL_H => Sys2Proof.Machine.execLdL_H s
  | .ldL_L => Sys2Proof.Machine.execLdL_L s
  | .ldL_atHL => Sys2Proof.Machine.execLdL_atHL s
  | .ldL_A => Sys2Proof.Machine.execLdL_A s
  | .ldAtHL_B => Sys2Proof.Machine.execLdAtHL_B s
  | .ldAtHL_C => Sys2Proof.Machine.execLdAtHL_C s
  | .ldAtHL_D => Sys2Proof.Machine.execLdAtHL_D s
  | .ldAtHL_E => Sys2Proof.Machine.execLdAtHL_E s
  | .ldAtHL_H => Sys2Proof.Machine.execLdAtHL_H s
  | .ldAtHL_L => Sys2Proof.Machine.execLdAtHL_L s
  | .halt => Sys2Proof.Machine.execHalt s
  | .ldAtHL_A => Sys2Proof.Machine.execLdAtHL_A s
  | .ldA_B => Sys2Proof.Machine.execLdA_B s
  | .ldA_C => Sys2Proof.Machine.execLdA_C s
  | .ldA_D => Sys2Proof.Machine.execLdA_D s
  | .ldA_E => Sys2Proof.Machine.execLdA_E s
  | .ldA_H => Sys2Proof.Machine.execLdA_H s
  | .ldA_L => Sys2Proof.Machine.execLdA_L s
  | .ldA_atHL => Sys2Proof.Machine.execLdA_atHL s
  | .ldA_A => Sys2Proof.Machine.execLdA_A s
  | .addA_B => Sys2Proof.Machine.execAddA_B s
  | .addA_C => Sys2Proof.Machine.execAddA_C s
  | .addA_D => Sys2Proof.Machine.execAddA_D s
  | .addA_E => Sys2Proof.Machine.execAddA_E s
  | .addA_H => Sys2Proof.Machine.execAddA_H s
  | .addA_L => Sys2Proof.Machine.execAddA_L s
  | .addA_atHL => Sys2Proof.Machine.execAddA_atHL s
  | .addA_A => Sys2Proof.Machine.execAddA_A s
  | .adcA_B => Sys2Proof.Machine.execAdcA_B s
  | .adcA_C => Sys2Proof.Machine.execAdcA_C s
  | .adcA_D => Sys2Proof.Machine.execAdcA_D s
  | .adcA_E => Sys2Proof.Machine.execAdcA_E s
  | .adcA_H => Sys2Proof.Machine.execAdcA_H s
  | .adcA_L => Sys2Proof.Machine.execAdcA_L s
  | .adcA_atHL => Sys2Proof.Machine.execAdcA_atHL s
  | .adcA_A => Sys2Proof.Machine.execAdcA_A s
  | .subA_B => Sys2Proof.Machine.execSubA_B s
  | .subA_C => Sys2Proof.Machine.execSubA_C s
  | .subA_D => Sys2Proof.Machine.execSubA_D s
  | .subA_E => Sys2Proof.Machine.execSubA_E s
  | .subA_H => Sys2Proof.Machine.execSubA_H s
  | .subA_L => Sys2Proof.Machine.execSubA_L s
  | .subA_atHL => Sys2Proof.Machine.execSubA_atHL s
  | .subA_A => Sys2Proof.Machine.execSubA_A s
  | .sbcA_B => Sys2Proof.Machine.execSbcA_B s
  | .sbcA_C => Sys2Proof.Machine.execSbcA_C s
  | .sbcA_D => Sys2Proof.Machine.execSbcA_D s
  | .sbcA_E => Sys2Proof.Machine.execSbcA_E s
  | .sbcA_H => Sys2Proof.Machine.execSbcA_H s
  | .sbcA_L => Sys2Proof.Machine.execSbcA_L s
  | .sbcA_atHL => Sys2Proof.Machine.execSbcA_atHL s
  | .sbcA_A => Sys2Proof.Machine.execSbcA_A s
  | .andA_B => Sys2Proof.Machine.execAndA_B s
  | .andA_C => Sys2Proof.Machine.execAndA_C s
  | .andA_D => Sys2Proof.Machine.execAndA_D s
  | .andA_E => Sys2Proof.Machine.execAndA_E s
  | .andA_H => Sys2Proof.Machine.execAndA_H s
  | .andA_L => Sys2Proof.Machine.execAndA_L s
  | .andA_atHL => Sys2Proof.Machine.execAndA_atHL s
  | .andA_A => Sys2Proof.Machine.execAndA_A s
  | .xorA_B => Sys2Proof.Machine.execXorA_B s
  | .xorA_C => Sys2Proof.Machine.execXorA_C s
  | .xorA_D => Sys2Proof.Machine.execXorA_D s
  | .xorA_E => Sys2Proof.Machine.execXorA_E s
  | .xorA_H => Sys2Proof.Machine.execXorA_H s
  | .xorA_L => Sys2Proof.Machine.execXorA_L s
  | .xorA_atHL => Sys2Proof.Machine.execXorA_atHL s
  | .xorA_A => Sys2Proof.Machine.execXorA_A s
  | .orA_B => Sys2Proof.Machine.execOrA_B s
  | .orA_C => Sys2Proof.Machine.execOrA_C s
  | .orA_D => Sys2Proof.Machine.execOrA_D s
  | .orA_E => Sys2Proof.Machine.execOrA_E s
  | .orA_H => Sys2Proof.Machine.execOrA_H s
  | .orA_L => Sys2Proof.Machine.execOrA_L s
  | .orA_atHL => Sys2Proof.Machine.execOrA_atHL s
  | .orA_A => Sys2Proof.Machine.execOrA_A s
  | .cpB => Sys2Proof.Machine.execCpB s
  | .cpC => Sys2Proof.Machine.execCpC s
  | .cpD => Sys2Proof.Machine.execCpD s
  | .cpE => Sys2Proof.Machine.execCpE s
  | .cpH => Sys2Proof.Machine.execCpH s
  | .cpL => Sys2Proof.Machine.execCpL s
  | .cpAtHL => Sys2Proof.Machine.execCpAtHL s
  | .cpA => Sys2Proof.Machine.execCpA s
  | .retNZ => Sys2Proof.Machine.execRetNZ s
  | .popBC => Sys2Proof.Machine.execPopBC s
  | .jpNZ_nn => Sys2Proof.Machine.execJpNZ_nn s
  | .jpNN => Sys2Proof.Machine.execJpNN s
  | .callNZ_nn => Sys2Proof.Machine.execCallNZ_nn s
  | .pushBC => Sys2Proof.Machine.execPushBC s
  | .addA_n => Sys2Proof.Machine.execAddA_n s
  | .rst00H => Sys2Proof.Machine.execRst00H s
  | .retZ => Sys2Proof.Machine.execRetZ s
  | .ret => Sys2Proof.Machine.execRet s
  | .jpZ_nn => Sys2Proof.Machine.execJpZ_nn s
  | .cbPrefix => Sys2Proof.Machine.execCbPrefix s
  | .callZ_nn => Sys2Proof.Machine.execCallZ_nn s
  | .callNN => Sys2Proof.Machine.execCallNN s
  | .adcA_n => Sys2Proof.Machine.execAdcA_n s
  | .rst08H => Sys2Proof.Machine.execRst08H s
  | .retNC => Sys2Proof.Machine.execRetNC s
  | .popDE => Sys2Proof.Machine.execPopDE s
  | .jpNC_nn => Sys2Proof.Machine.execJpNC_nn s
  | .noneD3 => Sys2Proof.Machine.execNoneD3 s
  | .callNC_nn => Sys2Proof.Machine.execCallNC_nn s
  | .pushDE => Sys2Proof.Machine.execPushDE s
  | .subA_n => Sys2Proof.Machine.execSubA_n s
  | .rst10H => Sys2Proof.Machine.execRst10H s
  | .retC => Sys2Proof.Machine.execRetC s
  | .reti => Sys2Proof.Machine.execReti s
  | .jpC_nn => Sys2Proof.Machine.execJpC_nn s
  | .noneDB => Sys2Proof.Machine.execNoneDB s
  | .callC_nn => Sys2Proof.Machine.execCallC_nn s
  | .noneDD => Sys2Proof.Machine.execNoneDD s
  | .sbcA_n => Sys2Proof.Machine.execSbcA_n s
  | .rst18H => Sys2Proof.Machine.execRst18H s
  | .ldhAtN_A => Sys2Proof.Machine.execLdhAtN_A s
  | .popHL => Sys2Proof.Machine.execPopHL s
  | .ldAtHighC_A => Sys2Proof.Machine.execLdAtHighC_A s
  | .noneE3 => Sys2Proof.Machine.execNoneE3 s
  | .noneE4 => Sys2Proof.Machine.execNoneE4 s
  | .pushHL => Sys2Proof.Machine.execPushHL s
  | .andA_n => Sys2Proof.Machine.execAndA_n s
  | .rst20H => Sys2Proof.Machine.execRst20H s
  | .addSP_e => Sys2Proof.Machine.execAddSP_e s
  | .jpAtHL => Sys2Proof.Machine.execJpAtHL s
  | .ldAtNN_A => Sys2Proof.Machine.execLdAtNN_A s
  | .noneEB => Sys2Proof.Machine.execNoneEB s
  | .noneEC => Sys2Proof.Machine.execNoneEC s
  | .noneED => Sys2Proof.Machine.execNoneED s
  | .xorA_n => Sys2Proof.Machine.execXorA_n s
  | .rst28H => Sys2Proof.Machine.execRst28H s
  | .ldhA_atN => Sys2Proof.Machine.execLdhA_atN s
  | .popAF => Sys2Proof.Machine.execPopAF s
  | .ldA_atHighC => Sys2Proof.Machine.execLdA_atHighC s
  | .di => Sys2Proof.Machine.execDi s
  | .noneF4 => Sys2Proof.Machine.execNoneF4 s
  | .pushAF => Sys2Proof.Machine.execPushAF s
  | .orA_n => Sys2Proof.Machine.execOrA_n s
  | .rst30H => Sys2Proof.Machine.execRst30H s
  | .ldhlSP_n => Sys2Proof.Machine.execLdhlSP_n s
  | .ldSP_HL => Sys2Proof.Machine.execLdSP_HL s
  | .ldA_atNN => Sys2Proof.Machine.execLdA_atNN s
  | .ei => Sys2Proof.Machine.execEi s
  | .noneFC => Sys2Proof.Machine.execNoneFC s
  | .noneFD => Sys2Proof.Machine.execNoneFD s
  | .cpN => Sys2Proof.Machine.execCpN s
  | .rst38H => Sys2Proof.Machine.execRst38H s

end Sys2Proof.Machine
end

