-- ==== Sys2Proof/Machine/Step.lean ====
section
/-! DEFINITION. The single-step operation (R210): fetch the opcode byte, advance pc, select the operation by that byte
alone, run it, fold and clear the cycle clock. -/

namespace Sys2Proof.Machine

/-- One step (R210). A CPU that has stopped takes no step: its fault stands (R231). -/
def step (s : State) : Host.Outcome State Fault Refusal :=
  match s.stopped with
  | some mark => .fault (.fatal mark s)
  | none =>
    match exec (decodeOpcode (fetchOpcode s).1) (fetchOpcode s).2 with
    | .next t => .next (endStep t)
    | .fault r => .fault r
    | .refused r => .refused r

/-- `s` with an instruction word stored where the next step fetches: at pc in the RAM, the bits from `nbits` up zero.
The fetch needs a RAM bus and a CPU that has not stopped, so those two are set; nothing else changes (log 7). -/
def State.withFetchWord (s : State) (nbits w : Nat) : State :=
  { s with
    mem := placeBytes s.pc (wordBytes nbits w) s.mem,
    cfg := { s.cfg with bus := .ram },
    stopped := none }

end Sys2Proof.Machine
end

