-- ==== Sys2Proof/Machine/HostSide.lean ====
section
/-! DEFINITION. The host's moves between steps other than step itself (R246): construct is `State.boot`, reset is
`resetCpu`, observe is reading the state, and here the host's write to memory through the bus. -/

namespace Sys2Proof.Machine

/-- The host writes a byte of memory between steps; "the CPU does nothing", so it is no bus event of a step (R246,
R60). -/
def hostPoke (addr : Word) (v : Byte) (s : State) : State :=
  { s with mem := Memory.write s.mem addr.toNat v }

end Sys2Proof.Machine
end

