-- ==== Sys2Proof/WellFormed.lean ====
section
/-! DEFINITION. Well-formed instructions: an instruction carries as many immediate bytes as its format has (R70). -/

namespace Sys2Proof

/-- The immediate bytes are those of the instruction's format: 0 for `OP` and a fatal opcode, 1 for `OP_N`, 2 for
`OP_NN` (R70, R78). Each byte may hold any value. -/
def Code.wf (code : Code) : Bool := code.imm.length == code.instr.immCount

end Sys2Proof
end

