-- ==== Sys2Proof/Safety.lean ====
section
/-! DEFINITION. The terms claims use: the invariant of a reachable state, what a fetch and a settled step look like, the
table of pc advances and costs (R218), which registers and addresses each form writes (R22), what two states agree on,
and what a step's bus events say. Nothing here is used by the machine. -/

namespace Sys2Proof

/-! ### The tables of R218 and R22 -/

/-- pc advance of a form, the opcode byte included (R218). -/
def Form.advance (f : Form) : Nat :=
  match f with
  | .ldRegReg _ _ | .ldRegAtHL _ | .ldAtHLReg _ | .ldAAtBC | .ldAAtDE | .ldAtBCA | .ldAtDEA | .ldAHighC | .ldHighCA
  | .ldiAtHLA | .ldiAAtHL | .lddAtHLA | .lddAAtHL | .ldSpHL | .push _ | .pop _ | .popAF
  | .alu _ (.reg _) | .alu _ .atHL | .nop | .halt | .di | .ei => 1
  | .ldRegImm _ | .ldAtHLImm | .ldhAtNA | .ldhAAtN | .ldhlSp | .alu _ .imm => 2
  | .ldAAbs | .ldAbsA | .ldPairImm _ | .ldSpImm | .ldAbsSp => 3

/-- Machine cycles of a form (R218); PUSH's are the parameter `P_PUSH_COST`. Every cost has t = 4 m (R268). -/
def Form.mCycles (p : PushCost) (f : Form) : Nat :=
  match f with
  | .ldRegReg _ _ | .alu _ (.reg _) | .nop | .halt | .di | .ei => 1
  | .ldRegImm _ | .ldRegAtHL _ | .ldAtHLReg _ | .ldAAtBC | .ldAAtDE | .ldAtBCA | .ldAtDEA | .ldAHighC | .ldHighCA
  | .ldiAtHLA | .ldiAAtHL | .lddAtHLA | .lddAAtHL | .ldSpHL | .alu _ .atHL | .alu _ .imm => 2
  | .ldAtHLImm | .ldhAtNA | .ldhAAtN | .ldPairImm _ | .ldSpImm | .ldhlSp | .pop _ | .popAF => 3
  | .ldAAbs | .ldAbsA => 4
  | .ldAbsSp => 5
  | .push _ =>
    match p with
    | .three12 => 3
    | .four16 => 4

/-- The registers a form writes (R22): its destinations, H and L where it steps HL, F where it writes flags. -/
def Form.destRegs (f : Form) : List Reg :=
  match f with
  | .ldRegReg d _ | .ldRegImm d | .ldRegAtHL d => [Machine.opndReg d]
  | .ldAAtBC | .ldAAtDE | .ldAAbs | .ldAHighC | .ldhAAtN => [.A]
  | .ldiAtHLA | .lddAtHLA => [.H, .L]
  | .ldiAAtHL | .lddAAtHL => [.A, .H, .L]
  | .ldPairImm p | .pop p => [Machine.pairHi (Machine.mainPair p), Machine.pairLo (Machine.mainPair p)]
  | .ldhlSp => [.H, .L, .F]
  | .popAF | .alu _ _ => [.A, .F]
  | .ldAtHLReg _ | .ldAtHLImm | .ldAtBCA | .ldAtDEA | .ldAbsA | .ldHighCA | .ldhAtNA | .ldSpImm | .ldSpHL | .ldAbsSp
  | .push _ | .nop | .halt | .di | .ei => []

/-- The forms that write SP (R35). -/
def Form.writesSp (f : Form) : Bool :=
  match f with
  | .ldSpImm | .ldSpHL | .push _ | .pop _ | .popAF => true
  | .ldRegReg _ _ | .ldRegImm _ | .ldRegAtHL _ | .ldAtHLReg _ | .ldAtHLImm | .ldAAtBC | .ldAAtDE | .ldAtBCA | .ldAtDEA
  | .ldAAbs | .ldAbsA | .ldAHighC | .ldHighCA | .ldiAtHLA | .ldiAAtHL | .lddAtHLA | .lddAAtHL | .ldhAtNA | .ldhAAtN
  | .ldPairImm _ | .ldAbsSp | .ldhlSp | .alu _ _ | .nop | .halt | .di | .ei => false

namespace Machine

/-- The addresses of the bytes a form stores, from the state its operation starts in (R55), computed with the same
functions as its meaning: empty for a form that stores nothing. -/
def storedAddrs (f : Form) (s : State) : List Word :=
  match f with
  | .ldAtHLReg _ | .ldAtHLImm | .ldiAtHLA | .lddAtHLA => [readPair .HL s]
  | .ldAtBCA => [readPair .BC s]
  | .ldAtDEA => [readPair .DE s]
  | .ldAbsA => [busWord s.pc s]
  | .ldHighCA => [highPage (readReg .C s)]
  | .ldhAtNA =>
    match s.cfg.ldhEa with
    | .pcPage => [pcPageAddr s]
    | .immOffset => [highPage (busByte s.pc s)]
  | .ldAbsSp => [busWord s.pc s, busWord s.pc s + 1#16]
  | .push _ => [s.sp - 1#16, s.sp - 2#16]
  | .ldRegReg _ _ | .ldRegImm _ | .ldRegAtHL _ | .ldAAtBC | .ldAAtDE | .ldAAbs | .ldAHighC | .ldiAAtHL | .lddAAtHL
  | .ldhAAtN | .ldPairImm _ | .ldSpImm | .ldSpHL | .ldhlSp | .pop _ | .popAF | .alu _ _ | .nop | .halt | .di | .ei => []

/-! ### Fatal bytes -/

/-- The bytes of kind `UNIMPLEMENTED`, as R232 lists them. -/
def unimplementedBytes : List Byte :=
  [0x03, 0x04, 0x05, 0x07, 0x09, 0x0B, 0x0C, 0x0D, 0x0F, 0x10, 0x13, 0x14, 0x15, 0x17, 0x18, 0x19, 0x1B, 0x1C, 0x1D,
   0x1F, 0x20, 0x23, 0x24, 0x25, 0x27, 0x28, 0x29, 0x2B, 0x2C, 0x2D, 0x2F, 0x30] ++
  [0x33, 0x34, 0x35, 0x37, 0x38, 0x39, 0x3B, 0x3C, 0x3D, 0x3F, 0x98, 0x99, 0x9A, 0x9B, 0x9C, 0x9D, 0x9E, 0x9F, 0xB8,
   0xB9, 0xBA, 0xBB, 0xBC, 0xBD, 0xBE, 0xBF] ++
  [0xC0, 0xC2, 0xC3, 0xC4, 0xC7, 0xC8, 0xC9, 0xCA, 0xCB, 0xCC, 0xCD, 0xCF, 0xD0, 0xD2, 0xD4, 0xD7, 0xD8, 0xD9, 0xDA,
   0xDC, 0xDE, 0xDF, 0xE7, 0xE8, 0xE9, 0xEF, 0xF7, 0xFE, 0xFF]

/-- The bytes of kind `UNKNOWN`, as R232 lists them. -/
def unknownBytes : List Byte := [0xD3, 0xDB, 0xDD, 0xE3, 0xE4, 0xEB, 0xEC, 0xED, 0xF4, 0xFC, 0xFD]

/-- The bytes of a fault kind (R232). -/
def fatalBytes (k : FaultKind) : List Byte :=
  match k with
  | .unimplemented => unimplementedBytes
  | .unknown => unknownBytes

/-! ### States -/

/-- The counters of an (m, t) pair in a state whose clocks are K bits wide (R30). -/
def counters (s : State) (m t : Nat) : Cycles := ⟨m % 2 ^ s.cfg.clkBits, t % 2 ^ s.cfg.clkBits⟩

/-- F's byte from four flag values: Z bit 7, N bit 6, H bit 5, C bit 4, bits 3..0 zero (R25). -/
def packFlags (z n h c : Bool) : Byte :=
  BitVec.ofBool z ++ BitVec.ofBool n ++ BitVec.ofBool h ++ BitVec.ofBool c ++ 0#4

/-- What holds at every step boundary of a machine started from a canonical memory: the memory's form, F's low nibble
0 (R26), `last` = (0, 0) (R32), clocks within K bits (R30), K positive (R6). -/
structure Inv (s : State) : Prop where
  memWf : Memory.wf s.mem
  fLow : s.f &&& 0x0F#8 = 0#8
  lastZero : s.last = ⟨0, 0⟩
  clkM : s.clk.m < 2 ^ s.cfg.clkBits
  clkT : s.clk.t < 2 ^ s.cfg.clkBits
  cfgWf : Config.wf s.cfg = true

/-- The state after steps 1 and 2 of R210: one byte read at pc, pc + 1. -/
def fetched (s : State) : State :=
  { s with
    pc := s.pc + 1#16, events := [.read1 s.pc (busByte s.pc s)], cost := none, busReads := s.busReads + 1 }

/-- The state after steps 5 and 6 of R210: `last` folded into `clk` and given out as the cost, then cleared. -/
def settled (s : State) : State :=
  { s with clk := counters s (s.clk.m + s.last.m) (s.clk.t + s.last.t), cost := some s.last, last := ⟨0, 0⟩ }

/-- The operand of an ALU instruction (R160). -/
def aluValue (src : AluSrc) (s : State) : Byte :=
  match src with
  | .reg r => readReg (opndReg r) s
  | .atHL => busByte (readPair .HL s) s
  | .imm => busByte s.pc s

/-- The state after the operand of an ALU instruction is read (R160). -/
def afterOperand (src : AluSrc) (s : State) : State :=
  match src with
  | .reg _ => s
  | .atHL =>
    { s with
      events := s.events ++ [.read1 (readPair .HL s) (busByte (readPair .HL s) s)], busReads := s.busReads + 1 }
  | .imm =>
    { s with
      pc := s.pc + 1#16, events := s.events ++ [.read1 s.pc (busByte s.pc s)], busReads := s.busReads + 1 }

/-- The cost of an ALU instruction: (1, 4) for a register operand, (2, 8) for (HL) or an immediate (R160). -/
def aluCost (src : AluSrc) (s : State) : Cycles :=
  match src with
  | .reg _ => counters s 1 4
  | .atHL => counters s 2 8
  | .imm => counters s 2 8

/-- Two states with the same CPU state (R39), parameters and fault mark. -/
structure CpuAgree (s t : State) : Prop where
  regs : ∀ r, readReg r s = readReg r t
  pc : s.pc = t.pc
  sp : s.sp = t.sp
  clk : s.clk = t.clk
  last : s.last = t.last
  cfg : s.cfg = t.cfg
  stopped : s.stopped = t.stopped

/-! ### Bus events -/

/-- The addresses whose bytes a bus event reads (R50, R53). -/
def BusEvent.readAddrs (ev : BusEvent) : List Word :=
  match ev with
  | .read1 a _ => [a]
  | .read2 a _ => [a, a + 1#16]
  | .write1 _ _ => []
  | .write2 _ _ => []

/-- What a bus event does to the bytes of a RAM, as a function of the address (R56). -/
def BusEvent.update (ev : BusEvent) (ram : Word → Byte) : Word → Byte :=
  match ev with
  | .read1 _ _ => ram
  | .read2 _ _ => ram
  | .write1 a v => fun x => if x = a then v else ram x
  | .write2 a v => fun x => if x = a + 1#16 then (v >>> 8).setWidth 8 else if x = a then v.setWidth 8 else ram x

/-- The answer a bus event records is the one the RAM gives (R56); a write records none. -/
def BusEvent.answeredBy (ev : BusEvent) (ram : Word → Byte) : Prop :=
  match ev with
  | .read1 a v => v = ram a
  | .read2 a v => v = (ram (a + 1#16)).setWidth 16 <<< 8 ||| (ram a).setWidth 16
  | .write1 _ _ => True
  | .write2 _ _ => True

/-- The RAM's byte at an address (R56). -/
def ramByte (s : State) (a : Word) : Byte := Memory.read s.mem a.toNat

end Machine

end Sys2Proof
end

