-- ==== Sys2Proof/Certificates/Slice0/Obligations.lean ====
section
/-! DEFINITION. The statements for the provers, one `def Obligations.<Name> : Prop` each, listed in OBLIGATIONS.json.
Each docstring cites the rules it formalises. -/

open Sys2Proof Sys2Proof.Machine

/-! ### Reset, registers, pairs, flags -/

/-- R38: the reset values. -/
def Obligations.ResetStateHasTheResetValues : Prop :=
  (∀ r, readReg r State.reset = 0x00#8) ∧ (∀ x, testFlag x State.reset = false) ∧
  State.reset.pc = 0x0000#16 ∧ State.reset.sp = 0x0000#16 ∧
  State.reset.clk = ⟨0, 0⟩ ∧ State.reset.last = ⟨0, 0⟩

/-- R260, R261, R262: the reset operation writes every piece of CPU state whatever the state before, makes no bus
event, leaves memory alone, and two resets are one. -/
def Obligations.ResetOperationZeroesTheCpu : Prop :=
  ∀ s : State,
    (∀ r, readReg r (resetCpu s) = 0x00#8) ∧ (∀ x, testFlag x (resetCpu s) = false) ∧
    (resetCpu s).pc = 0x0000#16 ∧ (resetCpu s).sp = 0x0000#16 ∧
    (resetCpu s).clk = ⟨0, 0⟩ ∧ (resetCpu s).last = ⟨0, 0⟩ ∧
    (resetCpu s).mem = s.mem ∧ (resetCpu s).events = s.events ∧ (resetCpu s).busReads = s.busReads ∧
    resetCpu (resetCpu s) = resetCpu s

/-- R24, R23: join and split, and the pair views. -/
def Obligations.PairsAreViewsOfTheirRegisters : Prop :=
  (∀ h l : Byte, (join h l).toNat = h.toNat * 256 + l.toNat ∧ split (join h l) = (h, l)) ∧
  (∀ v : Word, join (split v).1 (split v).2 = v) ∧
  (∀ s : State, readPair .AF s = join s.a s.f ∧ readPair .BC s = join s.b s.c ∧
    readPair .DE s = join s.d s.e ∧ readPair .HL s = join s.h s.l) ∧
  (∀ (v : Word) (s : State),
    writePair .BC v s = { s with b := (split v).1, c := (split v).2 } ∧
    writePair .DE v s = { s with d := (split v).1, e := (split v).2 } ∧
    writePair .HL v s = { s with h := (split v).1, l := (split v).2 } ∧
    writePair .AF v s = { s with a := (split v).1, f := (split v).2 &&& 0xF0#8 })

/-- R21, R26: a written register reads back what was written, F with its low nibble cleared; every other register and
everything that is no register is as before. -/
def Obligations.WrittenRegisterReadsBack : Prop :=
  ∀ (r q : Reg) (v : Byte) (s : State),
    readReg q (writeReg r v s) =
      (if q = r then (if r = .F then v &&& 0xF0#8 else v) else readReg q s) ∧
    (writeReg r v s).pc = s.pc ∧ (writeReg r v s).sp = s.sp ∧ (writeReg r v s).clk = s.clk ∧
    (writeReg r v s).last = s.last ∧ (writeReg r v s).mem = s.mem ∧ (writeReg r v s).cfg = s.cfg ∧
    (writeReg r v s).events = s.events ∧ (writeReg r v s).cost = s.cost ∧
    (writeReg r v s).busReads = s.busReads ∧ (writeReg r v s).stopped = s.stopped

/-- R27, R25: Set, Reset and Test of a flag: idempotent, each on its own bit of F alone. -/
def Obligations.FlagOperationsTouchOneBit : Prop :=
  flagMask .Z = 0x80#8 ∧ flagMask .N = 0x40#8 ∧ flagMask .H = 0x20#8 ∧ flagMask .C = 0x10#8 ∧
  ∀ (x y : Flag) (s : State),
    setFlag x s = { s with f := s.f ||| flagMask x } ∧
    resetFlag x s = { s with f := s.f &&& ~~~ flagMask x } ∧
    setFlag x (setFlag x s) = setFlag x s ∧ resetFlag x (resetFlag x s) = resetFlag x s ∧
    testFlag y (setFlag x s) = (if y = x then true else testFlag y s) ∧
    testFlag y (resetFlag x s) = (if y = x then false else testFlag y s) ∧
    (testFlag x s = true ↔ s.f &&& flagMask x = flagMask x)

/-- R28: `setflags` is the four resets and then each set whose argument is 1, in any state whose F has its low nibble
at 0 (R26); its net effect is the byte of the four flags, and nothing but F changes. -/
def Obligations.SetFlagsIsResetThenSet : Prop :=
  ∀ (z n h c : Bool) (s : State),
    setFlags z n h c s = { s with f := packFlags z n h c } ∧
    testFlag .Z (setFlags z n h c s) = z ∧ testFlag .N (setFlags z n h c s) = n ∧
    testFlag .H (setFlags z n h c s) = h ∧ testFlag .C (setFlags z n h c s) = c ∧
    (s.f &&& 0x0F#8 = 0#8 →
      let s0 := resetFlag .C (resetFlag .H (resetFlag .N (resetFlag .Z s)))
      let s1 := if z then setFlag .Z s0 else s0
      let s2 := if n then setFlag .N s1 else s1
      let s3 := if h then setFlag .H s2 else s2
      let s4 := if c then setFlag .C s3 else s3
      setFlags z n h c s = s4)

/-! ### The RAM bus -/

/-- R56, R53: the flat RAM bus. A byte or word written reads back, a word's low byte at its address and its high byte
at the next address modulo 2^16, and every other byte is as before. -/
def Obligations.RamReadsTheLastByteWritten : Prop :=
  ∀ (s : State) (a x : Word) (v : Byte) (w : Word), Memory.wf s.mem → s.cfg.bus = .ram →
    busByte x s = Memory.read s.mem x.toNat ∧
    busWord x s = join (busByte (x + 1#16) s) (busByte x s) ∧
    busByte x (memWrite1 a v s) = (if x = a then v else busByte x s) ∧
    busByte x (memWrite2 a w s) =
      (if x = a + 1#16 then (w >>> 8).setWidth 8 else if x = a then w.setWidth 8 else busByte x s) ∧
    busWord a (memWrite2 a w s) = w

/-- The model's memory form (assumption log 3): two canonical memories that read alike everywhere are equal data, and
a write keeps the form. -/
def Obligations.CanonicalMemoriesThatReadAlikeAreEqual : Prop :=
  (∀ m1 m2 : Memory, Memory.wf m1 → Memory.wf m2 →
    (∀ a : Word, Memory.read m1 a.toNat = Memory.read m2 a.toNat) → m1 = m2) ∧
  (∀ (m : Memory) (a : Word) (v : Byte), Memory.wf m →
    ∀ m' : Memory, Memory.wf m' →
      (∀ x : Word, Memory.read m' x.toNat = if x = a then v else Memory.read m x.toNat) →
      Memory.write m a.toNat v = m')

/-! ### Encoding -/

/-- R71, R72: the field codes, and sample words of every family (R75) written out bit by bit; the map is the spec's
general knowledge (log 9). -/
def Obligations.SampleWordsDecode : Prop :=
  decodeOpcode 0b01000001#8 = .ldB_C ∧ decodeOpcode 0b01111000#8 = .ldA_B ∧ decodeOpcode 0b00111110#8 = .ldA_n ∧
  decodeOpcode 0b01110101#8 = .ldAtHL_L ∧ decodeOpcode 0b00110110#8 = .ldAtHL_n ∧
  decodeOpcode 0b00100001#8 = .ldHL_nn ∧ decodeOpcode 0b00001000#8 = .ldAtNN_SP ∧
  decodeOpcode 0b11111000#8 = .ldhlSP_n ∧ decodeOpcode 0b11000101#8 = .pushBC ∧
  decodeOpcode 0b11010001#8 = .popDE ∧ decodeOpcode 0b11110001#8 = .popAF ∧
  decodeOpcode 0b10000000#8 = .addA_B ∧ decodeOpcode 0b10010111#8 = .subA_A ∧
  decodeOpcode 0b11100110#8 = .andA_n ∧ decodeOpcode 0b10101110#8 = .xorA_atHL ∧
  decodeOpcode 0b01110110#8 = .halt ∧ decodeOpcode 0b11001011#8 = .cbPrefix ∧ decodeOpcode 0b11010011#8 = .noneD3

/-- R73: every implemented form sits at its bit pattern, with the immediates of its format (R70); the patterns are the
spec's general knowledge (log 9). -/
def Obligations.FormsSitAtTheirBitPatterns : Prop :=
  (∀ d r : Opnd, decodeOpcode (0b01000000#8 + (8#8 * opndCode d + opndCode r)) = (Form.ldRegReg d r).instr) ∧
  (∀ d : Opnd, decodeOpcode (0b00000110#8 + 8#8 * opndCode d) = (Form.ldRegImm d).instr) ∧
  (∀ d : Opnd, decodeOpcode (0b01000110#8 + 8#8 * opndCode d) = (Form.ldRegAtHL d).instr) ∧
  (∀ r : Opnd, decodeOpcode (0b01110000#8 + opndCode r) = (Form.ldAtHLReg r).instr) ∧
  (∀ p : MainPair, decodeOpcode (0b00000001#8 + 16#8 * mainPairCode p) = (Form.ldPairImm p).instr) ∧
  (∀ p : Pair, decodeOpcode (0b11000101#8 + 16#8 * pairCode p) = (Form.push p).instr) ∧
  (∀ p : MainPair, decodeOpcode (0b11000001#8 + 16#8 * mainPairCode p) = (Form.pop p).instr) ∧
  (∀ (op : AluOp) (r : Opnd),
    decodeOpcode (0b10000000#8 + (8#8 * aluCode op + opndCode r)) = (Form.alu op (.reg r)).instr) ∧
  (∀ op : AluOp, decodeOpcode (0b10000110#8 + 8#8 * aluCode op) = (Form.alu op .atHL).instr) ∧
  (∀ op : AluOp, decodeOpcode (0b11000110#8 + 8#8 * aluCode op) = (Form.alu op .imm).instr) ∧
  (∀ f : Form, decodeOpcode f.opcode = f.instr ∧ f.instr.entry = .impl f ∧ f.instr.length = f.advance)

/-- R76, R78, R232: every byte value decodes either to an implemented form or to a fatal entry of its own byte, and
the fatal ones are exactly the bytes R232 lists, each with its kind (the split of kinds: log 10). -/
def Obligations.EveryByteIsImplementedOrFatal : Prop :=
  ∀ op : Byte,
    opcodeOf (decodeOpcode op) = op ∧
    ((∃ f : Form, (decodeOpcode op).entry = .impl f ∧ f.opcode = op ∧ f.instr = decodeOpcode op) ∨
      (∃ k : FaultKind, (decodeOpcode op).entry = .fatal k op)) ∧
    ∀ k : FaultKind, (decodeOpcode op).entry = .fatal k op ↔ op ∈ fatalBytes k

/-- R70, R78: decoding the bytes of a well-formed instruction, whatever follows them, gives the instruction back with
every immediate byte, and leaves what follows. -/
def Obligations.DecodeInvertsEncode : Prop :=
  ∀ (code : Code) (rest : List Byte), code.wf = true → decode (encode code ++ rest) = .ok code rest

/-- R70, R78: the other direction, and the two refusals: what decodes is the bytes of a well-formed instruction; a
byte stream is refused only when it is empty or its immediates are cut off. -/
def Obligations.EncodeInvertsDecode : Prop :=
  (∀ (bytes : List Byte) (code : Code) (rest : List Byte), decode bytes = .ok code rest →
    code.wf = true ∧ encode code ++ rest = bytes) ∧
  (∀ (bytes : List Byte) (why : DecodeError), decode bytes = .refused why →
    (bytes = [] ∧ why = .noByte) ∨
    ∃ (op : Byte) (more : List Byte), bytes = op :: more ∧ why = .truncated (decodeOpcode op) ∧
      more.length < (decodeOpcode op).immCount)

/-! ### 8-bit loads -/

/-- R100: LD r,r', the 49 register to register opcodes. -/
def Obligations.LdRegRegCopiesARegister : Prop :=
  ∀ (d r : Opnd) (s : State),
    decodeOpcode (0b01000000#8 + (8#8 * opndCode d + opndCode r)) = (Form.ldRegReg d r).instr ∧
    exec (Form.ldRegReg d r).instr s =
      .next { writeReg (opndReg d) (readReg (opndReg r) s) s with last := counters s 1 4 } ∧
    (d = r → exec (Form.ldRegReg d r).instr s = .next { s with last := counters s 1 4 })

/-- R101: LD r,n, seven opcodes. -/
def Obligations.LdRegImmLoadsTheImmediate : Prop :=
  ∀ (d : Opnd) (s : State),
    decodeOpcode (0b00000110#8 + 8#8 * opndCode d) = (Form.ldRegImm d).instr ∧
    exec (Form.ldRegImm d).instr s =
      .next { writeReg (opndReg d) (busByte s.pc s) s with
        pc := s.pc + 1#16, last := counters s 2 8,
        events := s.events ++ [.read1 s.pc (busByte s.pc s)], busReads := s.busReads + 1 }

/-- R102: LD r,(HL), seven opcodes; the address is HL before the write, r = H and r = L included. -/
def Obligations.LdRegAtHLLoadsTheByteAtHL : Prop :=
  ∀ (d : Opnd) (s : State),
    decodeOpcode (0b01000110#8 + 8#8 * opndCode d) = (Form.ldRegAtHL d).instr ∧
    exec (Form.ldRegAtHL d).instr s =
      .next { writeReg (opndReg d) (busByte (readPair .HL s) s) s with
        last := counters s 2 8,
        events := s.events ++ [.read1 (readPair .HL s) (busByte (readPair .HL s) s)], busReads := s.busReads + 1 }

/-- R103: LD (HL),r, seven opcodes. -/
def Obligations.LdAtHLRegStoresARegister : Prop :=
  ∀ (r : Opnd) (s : State),
    decodeOpcode (0b01110000#8 + opndCode r) = (Form.ldAtHLReg r).instr ∧
    exec (Form.ldAtHLReg r).instr s =
      .next { s with
        mem := Memory.write s.mem (readPair .HL s).toNat (readReg (opndReg r) s), last := counters s 2 8,
        events := s.events ++ [.write1 (readPair .HL s) (readReg (opndReg r) s)] }

/-- R104: LD (HL),n. -/
def Obligations.LdAtHLImmStoresTheImmediate : Prop :=
  ∀ s : State,
    decodeOpcode 0x36#8 = .ldAtHL_n ∧
    exec .ldAtHL_n s =
      .next { s with
        mem := Memory.write s.mem (readPair .HL s).toNat (busByte s.pc s),
        pc := s.pc + 1#16, last := counters s 3 12,
        events := s.events ++ [.read1 s.pc (busByte s.pc s), .write1 (readPair .HL s) (busByte s.pc s)],
        busReads := s.busReads + 1 }

/-- R105, R106: LD A,(BC) and LD A,(DE). -/
def Obligations.LdAAtBCAndDELoadTheByte : Prop :=
  decodeOpcode 0x0A#8 = .ldA_atBC ∧ decodeOpcode 0x1A#8 = .ldA_atDE ∧
  ∀ s : State,
    exec .ldA_atBC s =
      .next { s with
        a := busByte (readPair .BC s) s, last := counters s 2 8,
        events := s.events ++ [.read1 (readPair .BC s) (busByte (readPair .BC s) s)],
        busReads := s.busReads + 1 } ∧
    exec .ldA_atDE s =
      .next { s with
        a := busByte (readPair .DE s) s, last := counters s 2 8,
        events := s.events ++ [.read1 (readPair .DE s) (busByte (readPair .DE s) s)],
        busReads := s.busReads + 1 }

/-- R107, R108: LD (BC),A and LD (DE),A. -/
def Obligations.LdAtBCAndDEStoreA : Prop :=
  decodeOpcode 0x02#8 = .ldAtBC_A ∧ decodeOpcode 0x12#8 = .ldAtDE_A ∧
  ∀ s : State,
    exec .ldAtBC_A s =
      .next { s with
        mem := Memory.write s.mem (readPair .BC s).toNat s.a, last := counters s 2 8,
        events := s.events ++ [.write1 (readPair .BC s) s.a] } ∧
    exec .ldAtDE_A s =
      .next { s with
        mem := Memory.write s.mem (readPair .DE s).toNat s.a, last := counters s 2 8,
        events := s.events ++ [.write1 (readPair .DE s) s.a] }

/-- R109, R110: LD A,(nn) and LD (nn),A; nn is one word read at pc, and the data read of LD A,(nn) comes after it. -/
def Obligations.AbsoluteLoadAndStoreOfA : Prop :=
  decodeOpcode 0xFA#8 = .ldA_atNN ∧ decodeOpcode 0xEA#8 = .ldAtNN_A ∧
  ∀ s : State,
    let nn := busWord s.pc s
    let s1 : State := { s with
      pc := s.pc + 2#16, events := s.events ++ [.read2 s.pc nn], busReads := s.busReads + 1 }
    exec .ldA_atNN s =
      .next { s1 with
        a := busByte nn s1, last := counters s 4 16,
        events := s.events ++ [.read2 s.pc nn, .read1 nn (busByte nn s1)], busReads := s.busReads + 2 } ∧
    exec .ldAtNN_A s =
      .next { s1 with
        mem := Memory.write s.mem nn.toNat s.a, last := counters s 4 16,
        events := s.events ++ [.read2 s.pc nn, .write1 nn s.a] }

/-- R111, R112: the high-page forms through C. -/
def Obligations.HighPageLoadAndStoreThroughC : Prop :=
  decodeOpcode 0xF2#8 = .ldA_atHighC ∧ decodeOpcode 0xE2#8 = .ldAtHighC_A ∧
  ∀ s : State,
    let a : Word := 0xFF00#16 ||| s.c.setWidth 16
    0xFF00 ≤ a.toNat ∧
    exec .ldA_atHighC s =
      .next { s with
        a := busByte a s, last := counters s 2 8,
        events := s.events ++ [.read1 a (busByte a s)], busReads := s.busReads + 1 } ∧
    exec .ldAtHighC_A s =
      .next { s with
        mem := Memory.write s.mem a.toNat s.a, last := counters s 2 8, events := s.events ++ [.write1 a s.a] }

/-- R113: `hl_inc` and `hl_dec`, byte by byte with carry and borrow, are HL + 1 and HL - 1 modulo 2^16; neither writes
anything but H and L. -/
def Obligations.HLStepsAreSixteenBitSteps : Prop :=
  ∀ s : State,
    hlInc s = { s with l := s.l + 1#8, h := if s.l + 1#8 = 0x00#8 then s.h + 1#8 else s.h } ∧
    hlDec s = { s with l := s.l - 1#8, h := if s.l - 1#8 = 0xFF#8 then s.h - 1#8 else s.h } ∧
    readPair .HL (hlInc s) = readPair .HL s + 1#16 ∧ readPair .HL (hlDec s) = readPair .HL s - 1#16

/-- R114, R115, R116, R117: LDI and LDD transfer through HL and then step it, byte by byte (R113). -/
def Obligations.LdiAndLddTransferThenStepHL : Prop :=
  decodeOpcode 0x22#8 = .ldiAtHL_A ∧ decodeOpcode 0x2A#8 = .ldiA_atHL ∧
  decodeOpcode 0x32#8 = .lddAtHL_A ∧ decodeOpcode 0x3A#8 = .lddA_atHL ∧
  ∀ s : State,
    let hl := readPair .HL s
    let v := busByte hl s
    exec .ldiAtHL_A s =
      .next { s with
        l := s.l + 1#8, h := if s.l + 1#8 = 0x00#8 then s.h + 1#8 else s.h,
        mem := Memory.write s.mem hl.toNat s.a, last := counters s 2 8, events := s.events ++ [.write1 hl s.a] } ∧
    exec .ldiA_atHL s =
      .next { s with
        l := s.l + 1#8, h := if s.l + 1#8 = 0x00#8 then s.h + 1#8 else s.h, a := v, last := counters s 2 8,
        events := s.events ++ [.read1 hl v], busReads := s.busReads + 1 } ∧
    exec .lddAtHL_A s =
      .next { s with
        l := s.l - 1#8, h := if s.l - 1#8 = 0xFF#8 then s.h - 1#8 else s.h,
        mem := Memory.write s.mem hl.toNat s.a, last := counters s 2 8, events := s.events ++ [.write1 hl s.a] } ∧
    exec .lddA_atHL s =
      .next { s with
        l := s.l - 1#8, h := if s.l - 1#8 = 0xFF#8 then s.h - 1#8 else s.h, a := v, last := counters s 2 8,
        events := s.events ++ [.read1 hl v], busReads := s.busReads + 1 }

/-- R118, R119: LDH under both values of `P_LDH_EA`; pc is the address of byte 1, which `PC_PAGE` does not read. -/
def Obligations.LdhUnderBothAddressingParameters : Prop :=
  decodeOpcode 0xE0#8 = .ldhAtN_A ∧ decodeOpcode 0xF0#8 = .ldhA_atN ∧
  ∀ s : State,
    (s.cfg.ldhEa = .pcPage →
      let ea : Word := 0xFF00#16 + s.pc
      exec .ldhAtN_A s =
        .next { s with
          mem := Memory.write s.mem ea.toNat s.a, pc := s.pc + 1#16, last := counters s 3 12,
          events := s.events ++ [.write1 ea s.a] } ∧
      exec .ldhA_atN s =
        .next { s with
          a := busByte ea s, pc := s.pc + 1#16, last := counters s 3 12,
          events := s.events ++ [.read1 ea (busByte ea s)], busReads := s.busReads + 1 }) ∧
    (s.cfg.ldhEa = .immOffset →
      let n := busByte s.pc s
      let ea : Word := 0xFF00#16 ||| n.setWidth 16
      let s1 : State := { s with
        pc := s.pc + 1#16, events := s.events ++ [.read1 s.pc n], busReads := s.busReads + 1 }
      exec .ldhAtN_A s =
        .next { s1 with
          mem := Memory.write s.mem ea.toNat s.a, last := counters s 3 12,
          events := s.events ++ [.read1 s.pc n, .write1 ea s.a] } ∧
      exec .ldhA_atN s =
        .next { s1 with
          a := busByte ea s1, last := counters s 3 12,
          events := s.events ++ [.read1 s.pc n, .read1 ea (busByte ea s1)], busReads := s.busReads + 2 })

/-! ### 16-bit loads -/

/-- R130: LD BC/DE/HL,nn: two byte reads, under both values of `P_LDRR_ORDER`. -/
def Obligations.LdPairImmUnderBothByteOrders : Prop :=
  ∀ (p : MainPair) (s : State),
    let b1 := busByte s.pc s
    let s1 : State := { s with events := s.events ++ [.read1 s.pc b1], busReads := s.busReads + 1 }
    let b2 := busByte (s.pc + 1#16) s1
    let s2 : State := { s with
      pc := s.pc + 2#16, last := counters s 3 12,
      events := s.events ++ [.read1 s.pc b1, .read1 (s.pc + 1#16) b2], busReads := s.busReads + 2 }
    decodeOpcode (0b00000001#8 + 16#8 * mainPairCode p) = (Form.ldPairImm p).instr ∧
    (s.cfg.ldrrOrder = .highFirst →
      exec (Form.ldPairImm p).instr s = .next (writePair (mainPair p) (join b1 b2) s2)) ∧
    (s.cfg.ldrrOrder = .lowFirst →
      exec (Form.ldPairImm p).instr s = .next (writePair (mainPair p) (join b2 b1) s2))

/-- R131, R132: LD SP,nn (one little-endian word read) and LD SP,HL. -/
def Obligations.LdSpLoadsAWordOrHL : Prop :=
  decodeOpcode 0x31#8 = .ldSP_nn ∧ decodeOpcode 0xF9#8 = .ldSP_HL ∧
  ∀ s : State,
    exec .ldSP_nn s =
      .next { s with
        sp := busWord s.pc s, pc := s.pc + 2#16, last := counters s 3 12,
        events := s.events ++ [.read2 s.pc (busWord s.pc s)], busReads := s.busReads + 1 } ∧
    exec .ldSP_HL s = .next { s with sp := readPair .HL s, last := counters s 2 8 }

/-- R133, R53: LD (nn),SP writes SP as one word: low byte at nn, high byte at nn + 1 modulo 2^16. -/
def Obligations.LdAbsSpStoresAWord : Prop :=
  decodeOpcode 0x08#8 = .ldAtNN_SP ∧
  ∀ s : State,
    let nn := busWord s.pc s
    exec .ldAtNN_SP s =
      .next { s with
        mem := Memory.write (Memory.write s.mem nn.toNat (s.sp.setWidth 8)) (nn + 1#16).toNat
          ((s.sp >>> 8).setWidth 8),
        pc := s.pc + 2#16, last := counters s 5 20,
        events := s.events ++ [.read2 s.pc nn, .write2 nn s.sp], busReads := s.busReads + 1 }

/-- R134: LDHL SP,n under both values of `P_LDHL_SIGNED`; SP is unchanged, Z and N are 0. The flag formulas of the
signed branch are the spec's general knowledge (log 12). -/
def Obligations.LdhlUnderBothSignednessParameters : Prop :=
  decodeOpcode 0xF8#8 = .ldhlSP_n ∧
  ∀ s : State,
    let n := busByte s.pc s
    let s1 : State := { s with
      pc := s.pc + 1#16, last := counters s 3 12, events := s.events ++ [.read1 s.pc n],
      busReads := s.busReads + 1 }
    (s.cfg.ldhlSigned = false →
      let res : Word := s.sp + n.setWidth 16
      exec .ldhlSP_n s =
        .next { s1 with
          h := (res >>> 8).setWidth 8, l := res.setWidth 8,
          f := packFlags false false
            (decide (((s.sp &&& 0xF#16) + (n.setWidth 16 &&& 0xF#16)) &&& 0x10#16 ≠ 0#16))
            (decide (res.toNat < s.sp.toNat)) } ∧
      (res.toNat < s.sp.toNat ↔ 0x10000 ≤ s.sp.toNat + n.toNat)) ∧
    (s.cfg.ldhlSigned = true →
      let res : Word := s.sp + (if n.getLsbD 7 then n.setWidth 16 + 0xFF00#16 else n.setWidth 16)
      exec .ldhlSP_n s =
        .next { s1 with
          h := (res >>> 8).setWidth 8, l := res.setWidth 8,
          f := packFlags false false
            (decide (0xF < s.sp.toNat % 16 + n.toNat % 16))
            (decide (0xFF < s.sp.toNat % 256 + n.toNat)) })

/-! ### Stack -/

/-- R150: PUSH of every pair under both values of `P_PUSH_COST`: the high byte first, at SP - 1, then the low byte at
SP - 2. -/
def Obligations.PushStoresHighThenLow : Prop :=
  ∀ (p : Pair) (s : State),
    let hi := readReg (pairHi p) s
    let lo := readReg (pairLo p) s
    let s1 : State := { s with
      sp := s.sp - 2#16,
      mem := Memory.write (Memory.write s.mem (s.sp - 1#16).toNat hi) (s.sp - 2#16).toNat lo,
      events := s.events ++ [.write1 (s.sp - 1#16) hi, .write1 (s.sp - 2#16) lo] }
    decodeOpcode (0b11000101#8 + 16#8 * pairCode p) = (Form.push p).instr ∧
    (s.cfg.pushCost = .three12 → exec (Form.push p).instr s = .next { s1 with last := counters s 3 12 }) ∧
    (s.cfg.pushCost = .four16 → exec (Form.push p).instr s = .next { s1 with last := counters s 4 16 })

/-- R151: POP BC, DE, HL: the low byte at SP first, then the high byte at SP + 1. -/
def Obligations.PopLoadsLowThenHigh : Prop :=
  ∀ (p : MainPair) (s : State),
    let lo := busByte s.sp s
    let s1 : State := { s with events := s.events ++ [.read1 s.sp lo], busReads := s.busReads + 1 }
    let hi := busByte (s.sp + 1#16) s1
    decodeOpcode (0b11000001#8 + 16#8 * mainPairCode p) = (Form.pop p).instr ∧
    exec (Form.pop p).instr s =
      .next (writePair (mainPair p) (join hi lo) { s with
        sp := s.sp + 2#16, last := counters s 3 12,
        events := s.events ++ [.read1 s.sp lo, .read1 (s.sp + 1#16) hi], busReads := s.busReads + 2 })

/-- R152: POP AF: as POP, but the byte written to F has its low nibble forced to 0. -/
def Obligations.PopAFMasksTheLowNibble : Prop :=
  decodeOpcode 0xF1#8 = .popAF ∧
  ∀ s : State,
    let lo := busByte s.sp s
    let s1 : State := { s with events := s.events ++ [.read1 s.sp lo], busReads := s.busReads + 1 }
    let hi := busByte (s.sp + 1#16) s1
    exec .popAF s =
      .next { s with
        f := packFlags (lo.getLsbD 7) (lo.getLsbD 6) (lo.getLsbD 5) (lo.getLsbD 4), a := hi,
        sp := s.sp + 2#16, last := counters s 3 12,
        events := s.events ++ [.read1 s.sp lo, .read1 (s.sp + 1#16) hi], busReads := s.busReads + 2 } ∧
    packFlags (lo.getLsbD 7) (lo.getLsbD 6) (lo.getLsbD 5) (lo.getLsbD 4) = lo &&& 0xF0#8

/-- R153: on the RAM bus, PUSH then POP of any pair restores both registers and SP and leaves the pushed value below
the old SP; PUSH rr then POP rr' copies rr into rr'. -/
def Obligations.PushThenPopRestores : Prop :=
  ∀ (s : State), Memory.wf s.mem → s.cfg.bus = .ram → s.f &&& 0x0F#8 = 0#8 →
    (∀ p : Pair, ∃ t u : State,
      exec (Form.push p).instr s = .next t ∧
      ramByte t (s.sp - 1#16) = readReg (pairHi p) s ∧ ramByte t (s.sp - 2#16) = readReg (pairLo p) s ∧
      (match p with
        | .BC => exec .popBC t = .next u
        | .DE => exec .popDE t = .next u
        | .HL => exec .popHL t = .next u
        | .AF => exec .popAF t = .next u) ∧
      (∀ r, readReg r u = readReg r s) ∧ u.sp = s.sp) ∧
    (∀ (p : Pair) (q : MainPair), ∃ t u : State,
      exec (Form.push p).instr s = .next t ∧ exec (Form.pop q).instr t = .next u ∧
      readPair (mainPair q) u = readPair p s ∧ u.sp = s.sp)

/-! ### 8-bit arithmetic and logic -/

/-- R161, R164, R165, R166: ADD A from a register, (HL) or an immediate. -/
def Obligations.AddInstructions : Prop :=
  (∀ r : Opnd, decodeOpcode (0b10000000#8 + opndCode r) = (Form.alu .add (.reg r)).instr) ∧
  decodeOpcode 0x86#8 = (Form.alu .add .atHL).instr ∧ decodeOpcode 0xC6#8 = (Form.alu .add .imm).instr ∧
  ∀ (src : AluSrc) (s : State),
    let b := aluValue src s
    let res := s.a + b
    exec (Form.alu .add src).instr s =
      .next { afterOperand src s with
        a := res,
        f := packFlags (decide (res = 0#8)) false
          (decide (((s.a &&& 0xF#8) + (b &&& 0xF#8)) &&& 0x10#8 ≠ 0#8)) (decide (res.toNat < s.a.toNat)),
        last := aluCost src s }

/-- R162, R167, R168, R169: ADC A; the carry-in is the old C flag. -/
def Obligations.AdcInstructions : Prop :=
  (∀ r : Opnd, decodeOpcode (0b10001000#8 + opndCode r) = (Form.alu .adc (.reg r)).instr) ∧
  decodeOpcode 0x8E#8 = (Form.alu .adc .atHL).instr ∧ decodeOpcode 0xCE#8 = (Form.alu .adc .imm).instr ∧
  ∀ (src : AluSrc) (s : State),
    let b := aluValue src s
    let cin : Byte := if s.f.getLsbD 4 then 1#8 else 0#8
    let res := s.a + b + cin
    exec (Form.alu .adc src).instr s =
      .next { afterOperand src s with
        a := res,
        f := packFlags (decide (res = 0#8)) false
          (decide (((s.a &&& 0xF#8) + ((b + cin) &&& 0xF#8)) &&& 0x10#8 ≠ 0#8)) (decide (res.toNat < s.a.toNat)),
        last := aluCost src s }

/-- R163, R170, R171, R172: SUB A. -/
def Obligations.SubInstructions : Prop :=
  (∀ r : Opnd, decodeOpcode (0b10010000#8 + opndCode r) = (Form.alu .sub (.reg r)).instr) ∧
  decodeOpcode 0x96#8 = (Form.alu .sub .atHL).instr ∧ decodeOpcode 0xD6#8 = (Form.alu .sub .imm).instr ∧
  ∀ (src : AluSrc) (s : State),
    let b := aluValue src s
    let res := s.a - b
    exec (Form.alu .sub src).instr s =
      .next { afterOperand src s with
        a := res,
        f := packFlags (decide (res = 0#8)) true
          (decide (((s.a &&& 0xF#8) - (b &&& 0xF#8)) &&& 0x10#8 ≠ 0#8)) (decide (s.a.toNat < res.toNat)),
        last := aluCost src s }

/-- R180, R181 to R189: AND, OR and XOR. -/
def Obligations.LogicalInstructions : Prop :=
  (∀ r : Opnd, decodeOpcode (0b10100000#8 + opndCode r) = (Form.alu .and (.reg r)).instr ∧
    decodeOpcode (0b10110000#8 + opndCode r) = (Form.alu .or (.reg r)).instr ∧
    decodeOpcode (0b10101000#8 + opndCode r) = (Form.alu .xor (.reg r)).instr) ∧
  decodeOpcode 0xA6#8 = (Form.alu .and .atHL).instr ∧ decodeOpcode 0xE6#8 = (Form.alu .and .imm).instr ∧
  decodeOpcode 0xB6#8 = (Form.alu .or .atHL).instr ∧ decodeOpcode 0xF6#8 = (Form.alu .or .imm).instr ∧
  decodeOpcode 0xAE#8 = (Form.alu .xor .atHL).instr ∧ decodeOpcode 0xEE#8 = (Form.alu .xor .imm).instr ∧
  ∀ (src : AluSrc) (s : State),
    let b := aluValue src s
    exec (Form.alu .and src).instr s =
      .next { afterOperand src s with
        a := s.a &&& b, f := packFlags (decide (s.a &&& b = 0#8)) false true false, last := aluCost src s } ∧
    exec (Form.alu .or src).instr s =
      .next { afterOperand src s with
        a := s.a ||| b, f := packFlags (decide (s.a ||| b = 0#8)) false false false, last := aluCost src s } ∧
    exec (Form.alu .xor src).instr s =
      .next { afterOperand src s with
        a := s.a ^^^ b, f := packFlags (decide (s.a ^^^ b = 0#8)) false false false, last := aluCost src s }

/-- R161, R163: ADD's C and H are the carries out of bit 7 and bit 3 of the sum as integers; SUB's are the borrows,
and its nibble formula `((a & 0xF) - (b & 0xF)) & 0x10` is the nibble borrow. The equivalences
are the spec's own inference. -/
def Obligations.AddAndSubFlagsAreCarriesAndBorrows : Prop :=
  ∀ a b : Byte,
    (add8 a b).res = a + b ∧ ((add8 a b).z = true ↔ a + b = 0#8) ∧ (add8 a b).n = false ∧
    ((add8 a b).h = true ↔ ((a &&& 0xF#8) + (b &&& 0xF#8)) &&& 0x10#8 ≠ 0#8) ∧
    ((add8 a b).c = true ↔ (a + b).toNat < a.toNat) ∧
    ((add8 a b).c = true ↔ 256 ≤ a.toNat + b.toNat) ∧
    ((add8 a b).h = true ↔ 16 ≤ a.toNat % 16 + b.toNat % 16) ∧
    (sub8 a b).res = a - b ∧ ((sub8 a b).z = true ↔ a - b = 0#8) ∧ (sub8 a b).n = true ∧
    ((sub8 a b).h = true ↔ ((a &&& 0xF#8) - (b &&& 0xF#8)) &&& 0x10#8 ≠ 0#8) ∧
    ((sub8 a b).c = true ↔ a.toNat < (a - b).toNat) ∧
    ((sub8 a b).c = true ↔ a.toNat < b.toNat) ∧
    ((sub8 a b).h = true ↔ a.toNat % 16 < b.toNat % 16)

/-- R162: ADC's formula, its two corners with carry-in 1 (operand low nibble 0xF gives H = 0; operand 0xFF leaves A
and gives C = 0), and outside them the carries out of bit 3 and bit 7. -/
def Obligations.AdcFlagsAndTheirTwoCorners : Prop :=
  ∀ (a b : Byte) (cin : Bool),
    let k : Byte := if cin then 1#8 else 0#8
    (adc8 a b cin).res = a + b + k ∧ ((adc8 a b cin).z = true ↔ a + b + k = 0#8) ∧ (adc8 a b cin).n = false ∧
    ((adc8 a b cin).h = true ↔ ((a &&& 0xF#8) + ((b + k) &&& 0xF#8)) &&& 0x10#8 ≠ 0#8) ∧
    ((adc8 a b cin).c = true ↔ (a + b + k).toNat < a.toNat) ∧
    (cin = true → b.toNat % 16 = 15 → (adc8 a b cin).h = false) ∧
    (cin = true → b = 0xFF#8 → (adc8 a b cin).res = a ∧ (adc8 a b cin).c = false) ∧
    (¬ (cin = true ∧ b.toNat % 16 = 15) →
      ((adc8 a b cin).h = true ↔ 16 ≤ a.toNat % 16 + b.toNat % 16 + k.toNat)) ∧
    (¬ (cin = true ∧ b = 0xFF#8) → ((adc8 a b cin).c = true ↔ 256 ≤ a.toNat + b.toNat + k.toNat))

/-! ### Control and fatal opcodes -/

/-- R200, R201, R202, R203: NOP, HALT, DI and EI have no effect but their cost. -/
def Obligations.ControlOpcodesOnlyCharge : Prop :=
  decodeOpcode 0x00#8 = .nop ∧ decodeOpcode 0x76#8 = .halt ∧ decodeOpcode 0xF3#8 = .di ∧ decodeOpcode 0xFB#8 = .ei ∧
  ∀ s : State,
    exec .nop s = .next { s with last := counters s 1 4 } ∧
    exec .halt s = .next { s with last := counters s 1 4 } ∧
    exec .di s = .next { s with last := counters s 1 4 } ∧
    exec .ei s = .next { s with last := counters s 1 4 }

/-- R231, R232: the operation of each of the 98 fatal bytes is the fatal fault with its kind, its byte and the address
it was fetched from; nothing is read or written (the split of kinds: log 10). -/
def Obligations.FatalOpcodesRaiseTheFatalFault : Prop :=
  ∀ (k : FaultKind) (op : Byte), op ∈ fatalBytes k → ∀ s : State,
    exec (decodeOpcode op) s =
      .fault (.fatal ⟨k, op, s.pc - 1#16⟩ { s with stopped := some ⟨k, op, s.pc - 1#16⟩ })

/-- R231, R77, R234: a step that fetches a fatal byte ends in the fatal fault: one bus event, pc + 1, every register
and both clocks as before, no cost. The second clause is the model's (log 5), not the spec's: R231 says no later step of
a stopped CPU exists, and `step` there answers the same fault with the same state. -/
def Obligations.FatalStepLeavesTheFetchedState : Prop :=
  (∀ (k : FaultKind) (s : State), s.stopped = none → busByte s.pc s ∈ fatalBytes k →
    step s =
      .fault (.fatal ⟨k, busByte s.pc s, s.pc⟩ { s with
        pc := s.pc + 1#16, events := [.read1 s.pc (busByte s.pc s)], cost := none, busReads := s.busReads + 1,
        stopped := some ⟨k, busByte s.pc s, s.pc⟩ })) ∧
  (∀ (s left : State) (mark : FatalMark), step s = .fault (.fatal mark left) →
    left.stopped = some mark ∧ step left = .fault (.fatal mark left))

/-- R233: the implemented instructions raise nothing: each completes from every state (all 158). -/
def Obligations.ImplementedInstructionsComplete : Prop :=
  ∀ (i : Instr) (f : Form), i.entry = .impl f → ∀ s : State,
    ∃ t : State, exec i s = .next t ∧ t.stopped = s.stopped ∧ t.cfg = s.cfg ∧ t.clk = s.clk ∧
      t.last = counters s (f.mCycles s.cfg.pushCost) (4 * f.mCycles s.cfg.pushCost)

/-! ### The step -/

/-- R210, R211, R214, R215: a step fetches one byte at pc, advances pc, runs the operation that byte selects, folds
and clears the clock. -/
def Obligations.StepFetchesRunsAndFolds : Prop :=
  ∀ s : State, s.stopped = none →
    step s =
      match exec (decodeOpcode (busByte s.pc s)) (fetched s) with
      | .next t => .next (settled t)
      | .fault r => .fault r
      | .refused r => .refused r

/-- A step runs the decoded instruction: when the bytes at pc in the RAM decode to a well-formed instruction, the step
is `exec` of it after the opcode fetch, folded and cleared, and the bytes its fetches find are its immediates. -/
def Obligations.StepRunsTheDecodedInstruction : Prop :=
  ∀ (s : State) (code : Code) (rest : List Byte), s.stopped = none → s.cfg.bus = .ram →
    decode [ramByte s s.pc, ramByte s (s.pc + 1#16), ramByte s (s.pc + 2#16)] = .ok code rest →
    (step s =
      match exec code.instr (fetched s) with
      | .next t => .next (settled t)
      | .fault r => .fault r
      | .refused r => .refused r) ∧
    (code.instr.immCount = 1 → code.imm = [(fetch8 (fetched s)).1]) ∧
    (code.instr.immCount = 2 →
      code.imm = [busByte (s.pc + 1#16) (fetched s), busByte (s.pc + 2#16) (fetched s)] ∧
      (fetch16 (fetched s)).1 = join (busByte (s.pc + 2#16) (fetched s)) (busByte (s.pc + 1#16) (fetched s)))

/-- R219, R218, R204: what every step of an implemented opcode leaves: `last` (0, 0), F's low nibble 0 if it was,
the clock folded by the table's cost, which is the step's cost output, pc advanced by the table's advance and nothing
else, and the first event the opcode read. -/
def Obligations.StepMeetsTheAdvanceAndCostTable : Prop :=
  ∀ (s : State) (f : Form), s.stopped = none → decodeOpcode (busByte s.pc s) = f.instr →
    ∃ t : State, step s = .next t ∧
      t.last = ⟨0, 0⟩ ∧ (s.f &&& 0x0F#8 = 0#8 → t.f &&& 0x0F#8 = 0#8) ∧
      t.cost = some (counters s (f.mCycles s.cfg.pushCost) (4 * f.mCycles s.cfg.pushCost)) ∧
      t.clk = counters s (s.clk.m + f.mCycles s.cfg.pushCost) (s.clk.t + 4 * f.mCycles s.cfg.pushCost) ∧
      t.pc = s.pc + BitVec.ofNat 16 f.advance ∧
      t.events.head? = some (.read1 s.pc (busByte s.pc s))

/-- R216: there is no third outcome: a step answers a next state or the fatal fault, and the next state exactly when
the CPU runs (no mark of R231 stands) and the fetched byte is implemented. The answer for a CPU already stopped, whose
step R231 says does not exist, is the model's (log 5). -/
def Obligations.StepAnswersNextOrFatal : Prop :=
  ∀ s : State,
    ((∃ t, step s = .next t) ∨ (∃ mark left, step s = .fault (.fatal mark left))) ∧
    ((∃ t, step s = .next t) ↔
      s.stopped = none ∧ ∀ k : FaultKind, busByte s.pc s ∉ fatalBytes k)

/-- R26, R32, R30: the invariant of a step boundary is kept by every step. -/
def Obligations.StepKeepsTheInvariant : Prop :=
  ∀ s t : State, Inv s → step s = .next t → Inv t

/-- The invariant at reset, with every parameter and any canonical memory contents. -/
def Obligations.InvariantHoldsAtConstruction : Prop :=
  Inv State.reset ∧
  ∀ (cfg : Config) (mem : Memory), cfg.wf = true → Memory.wf mem → Inv (State.boot cfg mem)

/-- R248, R231: a run that has faulted stays faulted however many more steps are asked for, with the same mark, and a
run from a state that meets the invariant ends, if it ends normally, in one that does. What is said of a run begun from
a CPU already stopped is the model's (log 5). -/
def Obligations.RunEndsAtItsFirstFault : Prop :=
  (∀ (n k : Nat) (s : State) (r : Fault), core.run n s = .fault r → core.run (n + k) s = .fault r) ∧
  (∀ (n : Nat) (s t : State), Inv s → core.run n s = .next t → Inv t) ∧
  (∀ (n : Nat) (s left : State) (mark : FatalMark), core.run n s = .fault (.fatal mark left) →
    left.stopped = some mark)

/-- R269, R242: the clock wraps, each counter by itself, at K bits. -/
def Obligations.ClockWrapsAtItsWidth : Prop :=
  ∀ s : State, s.stopped = none → decodeOpcode (busByte s.pc s) = .nop →
    s.clk = ⟨0xFFFF, 0xFFFC⟩ →
    (s.cfg.clkBits = 16 → ∃ t, step s = .next t ∧ t.clk = ⟨0, 0⟩) ∧
    (s.cfg.clkBits = 64 → ∃ t, step s = .next t ∧ t.clk = ⟨0x10000, 0x10000⟩)

/-! ### Frames and whole-machine rules -/

/-- R22, R29, R120, R135: the register frame of every implemented instruction: every register but the form's
destinations is unchanged; F is one of them for ADD, ADC, SUB, AND, OR, XOR, LDHL and POP AF alone. -/
def Obligations.RegisterFrameOfEveryForm : Prop :=
  ∀ (f : Form) (s : State), ∃ t : State, exec f.instr s = .next t ∧
    (∀ r : Reg, r ∉ f.destRegs → readReg r t = readReg r s) ∧
    (Reg.F ∈ f.destRegs ↔ (∃ op src, f = .alu op src) ∨ f = .ldhlSp ∨ f = .popAF) ∧
    (f.writesSp = false → t.sp = s.sp) ∧
    t.clk = s.clk ∧ t.cfg = s.cfg ∧ t.cost = s.cost ∧ t.stopped = s.stopped

/-- R55, R50: the memory frame of every implemented instruction: every byte but those at the form's stored addresses
reads as before, and a form that stores nothing leaves memory as it is. -/
def Obligations.MemoryFrameOfEveryForm : Prop :=
  ∀ (f : Form) (s : State), ∃ t : State, exec f.instr s = .next t ∧
    (∀ a : Word, a ∉ storedAddrs f s → ramByte t a = ramByte s a) ∧
    (storedAddrs f s = [] → t.mem = s.mem)

/-- R56, R57, R60: the bus events account for memory: on the RAM bus the bytes after a step are those before it with
the step's writes done in order, every read the step made was answered with the RAM's byte before the step, and no
read comes after a write. -/
def Obligations.EventsAccountForMemory : Prop :=
  ∀ s t : State, Memory.wf s.mem → s.cfg.bus = .ram → step s = .next t →
    (∀ a : Word, ramByte t a = t.events.foldl (fun ram ev => ev.update ram) (ramByte s) a) ∧
    (∀ ev ∈ t.events, ev.answeredBy (ramByte s)) ∧
    t.events.Pairwise (fun e1 e2 => e1.readAddrs = [] → e2.readAddrs = [])

/-- R217: determinism. On the RAM bus, two states with the same CPU state whose memories agree on the bytes a step
reads have the same outcome: the same CPU state, events and cost, or the same fault, whatever the rest of memory holds.
On a bus with free answers memory plays no part at all: that second clause is the model's, whose own the free bus and
its count of reads are (log 2). What the second and third clauses say of a CPU already stopped is the model's too
(log 5). -/
def Obligations.StepDependsOnlyOnWhatItReads : Prop :=
  (∀ s s' t : State, CpuAgree s s' → s.cfg.bus = .ram → step s = .next t →
    (∀ ev ∈ t.events, ∀ a ∈ ev.readAddrs, ramByte s a = ramByte s' a) →
    ∃ t', step s' = .next t' ∧ CpuAgree t t' ∧ t'.events = t.events ∧ t'.cost = t.cost) ∧
  (∀ s s' : State, CpuAgree s s' → s.cfg.bus = .free → s.busReads = s'.busReads →
    (∃ t t', step s = .next t ∧ step s' = .next t' ∧ CpuAgree t t' ∧ t'.events = t.events ∧ t'.cost = t.cost) ∨
    (∃ mark left left', step s = .fault (.fatal mark left) ∧ step s' = .fault (.fatal mark left') ∧
      CpuAgree left left')) ∧
  (∀ (s s' left : State) (mark : FatalMark), CpuAgree s s' → step s = .fault (.fatal mark left) →
    busByte s.pc s = busByte s.pc s' →
    ∃ left', step s' = .fault (.fatal mark left') ∧ CpuAgree left left')

/-- R62: fetch coherence on the RAM bus: a byte stored at the next instruction's address, by the step before it
(LD (HL),r with HL = pc + 1) or by the host between steps, is the opcode the next step runs. -/
def Obligations.FetchSeesEarlierStores : Prop :=
  (∀ (s : State) (r : Opnd), Memory.wf s.mem → s.cfg.bus = .ram → s.stopped = none →
    decodeOpcode (busByte s.pc s) = (Form.ldAtHLReg r).instr → readPair .HL s = s.pc + 1#16 →
    ∃ t, step s = .next t ∧ t.pc = s.pc + 1#16 ∧ busByte t.pc t = readReg (opndReg r) s ∧
      (fetchOpcode t).1 = readReg (opndReg r) s) ∧
  (∀ (s : State) (v : Byte), Memory.wf s.mem → s.cfg.bus = .ram →
    (fetchOpcode (hostPoke s.pc v s)).1 = v)

/-- R246, R60: the host's write between steps changes one byte of memory and nothing of the CPU; it makes no event. -/
def Obligations.HostWriteChangesOneByte : Prop :=
  ∀ (s : State) (a x : Word) (v : Byte), Memory.wf s.mem →
    CpuAgree s (hostPoke a v s) ∧ (hostPoke a v s).events = s.events ∧ Memory.wf (hostPoke a v s).mem ∧
    ramByte (hostPoke a v s) x = if x = a then v else ramByte s x

/-- R190, R173: the flags after an arithmetic or logical instruction do not depend on the flags before, but for ADC's
carry-in: two states that differ in F alone, or for ADC in flags other than C, give the same A and F. -/
def Obligations.OldFlagsMatterOnlyToAdc : Prop :=
  ∀ (op : AluOp) (src : AluSrc) (s : State) (v : Byte),
    (op ≠ .adc ∨ v.getLsbD 4 = s.f.getLsbD 4) →
    exec (Form.alu op src).instr { s with f := v } = exec (Form.alu op src).instr s
end

