-- ==== Sys2Proof/Laws/Memory.lean ====
section
/-! SUPPORT. The laws of memory: a read after a write, every other byte unchanged, the canonical form kept by every
memory operation, and canonical memories that read alike are equal. -/

namespace Sys2Proof.Machine

/-- A canonical memory's tail is canonical. -/
theorem Memory.wf_tail {x : Host.Cell} {m : Memory} (h : Memory.wf (x :: m)) : Memory.wf m :=
  ⟨h.1.tail, fun y hy => h.2 y (List.mem_cons_of_mem _ hy)⟩

/-- Every address in the tail is above the head's. -/
theorem Memory.wf_head_lt {x : Host.Cell} {m : Memory} (h : Memory.wf (x :: m)) : ∀ y ∈ m, x.1 < y.1 :=
  (List.pairwise_cons.mp h.1).1

/-- An address below every listed one reads as an unlisted address. -/
theorem Memory.read_of_lt {m : Memory} {a : Nat} (h : ∀ y ∈ m, a < y.1) : Memory.read m a = Memory.unlisted := by
  induction m with
  | nil => rfl
  | cons x m ih =>
    have hx := h x (List.mem_cons_self ..)
    have ne : x.1 ≠ a := by omega
    simp only [Memory.read, ne, if_false]
    exact ih fun y hy => h y (List.mem_cons_of_mem _ hy)

/-- Reading through `put` at its own address, when no listed address is that low. -/
theorem Memory.read_put_same {m : Memory} {a : Nat} {v : Byte} (h : ∀ y ∈ m, a < y.1) :
    Memory.read (Memory.put a v m) a = v := by
  unfold Memory.put
  split
  · simp [read_of_lt h, *]
  · simp [Memory.read]

/-- Reading through `put` at another address. -/
theorem Memory.read_put_other {m : Memory} {a x : Nat} {v : Byte} (h : x ≠ a) :
    Memory.read (Memory.put a v m) x = Memory.read m x := by
  unfold Memory.put
  split
  · rfl
  · simp [Memory.read, Ne.symm h]

/-- A byte written reads back (R56). -/
theorem Memory.read_write_same {m : Memory} {a : Nat} {v : Byte} (h : Memory.wf m) :
    Memory.read (Memory.write m a v) a = v := by
  induction m with
  | nil => exact read_put_same (by simp)
  | cons x m ih =>
    have hlt := wf_head_lt h
    simp only [Memory.write]
    split
    · refine read_put_same fun y hy => ?_
      rcases List.mem_cons.mp hy with rfl | hy
      · assumption
      · have := hlt y hy
        omega
    · split
      · refine read_put_same fun y hy => ?_
        have := hlt y hy
        omega
      · have ne : x.1 ≠ a := by omega
        simp only [Memory.read, ne, if_false]
        exact ih (wf_tail h)

/-- A write leaves every other byte alone (R56), in any memory. -/
theorem Memory.read_write_other {m : Memory} {a x : Nat} {v : Byte} (h : x ≠ a) :
    Memory.read (Memory.write m a v) x = Memory.read m x := by
  induction m with
  | nil => exact read_put_other h
  | cons y m ih =>
    simp only [Memory.write]
    split
    · exact read_put_other h
    · split
      · have ne : y.1 ≠ x := by omega
        rw [read_put_other h]
        simp [Memory.read, ne]
      · simp only [Memory.read, ih]

/-- The bytes of a memory after a write. -/
theorem Memory.read_write {m : Memory} {a x : Nat} {v : Byte} (h : Memory.wf m) :
    Memory.read (Memory.write m a v) x = if x = a then v else Memory.read m x := by
  split
  · subst_vars
    exact read_write_same h
  · exact read_write_other ‹_›

/-- `put` below every listed address keeps the canonical form. -/
theorem Memory.put_wf {m : Memory} {a : Nat} {v : Byte} (h : Memory.wf m) (ha : a < 65536) (hlt : ∀ y ∈ m, a < y.1) :
    Memory.wf (Memory.put a v m) := by
  unfold Memory.put
  split
  · exact h
  · refine ⟨List.pairwise_cons.mpr ⟨hlt, h.1⟩, fun y hy => ?_⟩
    rcases List.mem_cons.mp hy with rfl | hy
    · exact ⟨ha, ‹_›⟩
    · exact h.2 y hy

/-- A bound below every listed address and the written one is below every address listed after the write. -/
theorem Memory.lt_of_mem_write {m : Memory} {a k : Nat} {v : Byte} (h : ∀ y ∈ m, k < y.1) (hk : k < a) :
    ∀ y ∈ Memory.write m a v, k < y.1 := by
  have put_lt : ∀ {m : Memory}, (∀ y ∈ m, k < y.1) → ∀ y ∈ Memory.put a v m, k < y.1 := by
    intro m hm y hy
    unfold Memory.put at hy
    split at hy
    · exact hm y hy
    · rcases List.mem_cons.mp hy with rfl | hy
      · exact hk
      · exact hm y hy
  induction m with
  | nil => exact put_lt h
  | cons x m ih =>
    have hm : ∀ y ∈ m, k < y.1 := fun y hy => h y (List.mem_cons_of_mem _ hy)
    simp only [Memory.write]
    split
    · exact put_lt h
    · split
      · exact put_lt hm
      · intro y hy
        rcases List.mem_cons.mp hy with rfl | hy
        · exact h _ (List.mem_cons_self ..)
        · exact ih hm y hy

/-- A write keeps the canonical form. -/
theorem Memory.write_wf {m : Memory} {a : Nat} {v : Byte} (h : Memory.wf m) (ha : a < 65536) :
    Memory.wf (Memory.write m a v) := by
  induction m with
  | nil => exact put_wf h ha (by simp)
  | cons x m ih =>
    have hlt := wf_head_lt h
    simp only [Memory.write]
    split
    · refine put_wf h ha fun y hy => ?_
      rcases List.mem_cons.mp hy with rfl | hy
      · assumption
      · have := hlt y hy
        omega
    · split
      · refine put_wf (wf_tail h) ha fun y hy => ?_
        have := hlt y hy
        omega
      · have w := ih (wf_tail h)
        refine ⟨List.pairwise_cons.mpr ⟨lt_of_mem_write hlt (by omega), w.1⟩, fun y hy => ?_⟩
        rcases List.mem_cons.mp hy with rfl | hy
        · exact h.2 _ (List.mem_cons_self ..)
        · exact w.2 y hy

/-- A write at an address of the space keeps the canonical form. -/
theorem Memory.write_word_wf {m : Memory} (a : Word) (v : Byte) (h : Memory.wf m) : Memory.wf (Memory.write m a.toNat v) :=
  write_wf h a.isLt

/-- A byte of the space after a write at an address of the space. -/
theorem Memory.read_write_word {m : Memory} {a x : Word} {v : Byte} (h : Memory.wf m) :
    Memory.read (Memory.write m a.toNat v) x.toNat = if x = a then v else Memory.read m x.toNat := by
  simp [read_write h, BitVec.toNat_inj]

/-- Laying bytes in memory keeps the canonical form. -/
theorem Memory.placeBytes_wf {m : Memory} (a : Word) (bs : List Byte) (h : Memory.wf m) : Memory.wf (placeBytes a bs m) := by
  induction bs generalizing a m with
  | nil => exact h
  | cons v rest ih => exact ih (a + 1#16) (write_word_wf a v h)

/-- The memory of the machine after reset is canonical. -/
theorem Memory.reset_wf : Memory.wf State.reset.mem := by decide

end Sys2Proof.Machine
end

