-- ==== Sys2Proof/Laws/State.lean ====
section
/-! SUPPORT. The state's updates, field by field: one lemma per field per named update, true by rfl, so that no later
proof unfolds a record update; and reading a register through each update. -/

namespace Sys2Proof.Machine

/-! ### advancePc -/

@[simp] theorem advancePc_a (k : Word) (s : State) : (advancePc k s).a = s.a := rfl
@[simp] theorem advancePc_b (k : Word) (s : State) : (advancePc k s).b = s.b := rfl
@[simp] theorem advancePc_c (k : Word) (s : State) : (advancePc k s).c = s.c := rfl
@[simp] theorem advancePc_d (k : Word) (s : State) : (advancePc k s).d = s.d := rfl
@[simp] theorem advancePc_e (k : Word) (s : State) : (advancePc k s).e = s.e := rfl
@[simp] theorem advancePc_h (k : Word) (s : State) : (advancePc k s).h = s.h := rfl
@[simp] theorem advancePc_l (k : Word) (s : State) : (advancePc k s).l = s.l := rfl
@[simp] theorem advancePc_f (k : Word) (s : State) : (advancePc k s).f = s.f := rfl
@[simp] theorem advancePc_pc (k : Word) (s : State) : (advancePc k s).pc = s.pc + k := rfl
@[simp] theorem advancePc_sp (k : Word) (s : State) : (advancePc k s).sp = s.sp := rfl
@[simp] theorem advancePc_clk (k : Word) (s : State) : (advancePc k s).clk = s.clk := rfl
@[simp] theorem advancePc_last (k : Word) (s : State) : (advancePc k s).last = s.last := rfl
@[simp] theorem advancePc_mem (k : Word) (s : State) : (advancePc k s).mem = s.mem := rfl
@[simp] theorem advancePc_cfg (k : Word) (s : State) : (advancePc k s).cfg = s.cfg := rfl
@[simp] theorem advancePc_events (k : Word) (s : State) : (advancePc k s).events = s.events := rfl
@[simp] theorem advancePc_cost (k : Word) (s : State) : (advancePc k s).cost = s.cost := rfl
@[simp] theorem advancePc_busReads (k : Word) (s : State) : (advancePc k s).busReads = s.busReads := rfl
@[simp] theorem advancePc_stopped (k : Word) (s : State) : (advancePc k s).stopped = s.stopped := rfl
@[simp] theorem readReg_advancePc (r : Reg) (k : Word) (s : State) : readReg r (advancePc k s) = readReg r s := by
  cases r <;> rfl

/-! ### setSp -/

@[simp] theorem setSp_a (v : Word) (s : State) : (setSp v s).a = s.a := rfl
@[simp] theorem setSp_b (v : Word) (s : State) : (setSp v s).b = s.b := rfl
@[simp] theorem setSp_c (v : Word) (s : State) : (setSp v s).c = s.c := rfl
@[simp] theorem setSp_d (v : Word) (s : State) : (setSp v s).d = s.d := rfl
@[simp] theorem setSp_e (v : Word) (s : State) : (setSp v s).e = s.e := rfl
@[simp] theorem setSp_h (v : Word) (s : State) : (setSp v s).h = s.h := rfl
@[simp] theorem setSp_l (v : Word) (s : State) : (setSp v s).l = s.l := rfl
@[simp] theorem setSp_f (v : Word) (s : State) : (setSp v s).f = s.f := rfl
@[simp] theorem setSp_pc (v : Word) (s : State) : (setSp v s).pc = s.pc := rfl
@[simp] theorem setSp_sp (v : Word) (s : State) : (setSp v s).sp = v := rfl
@[simp] theorem setSp_clk (v : Word) (s : State) : (setSp v s).clk = s.clk := rfl
@[simp] theorem setSp_last (v : Word) (s : State) : (setSp v s).last = s.last := rfl
@[simp] theorem setSp_mem (v : Word) (s : State) : (setSp v s).mem = s.mem := rfl
@[simp] theorem setSp_cfg (v : Word) (s : State) : (setSp v s).cfg = s.cfg := rfl
@[simp] theorem setSp_events (v : Word) (s : State) : (setSp v s).events = s.events := rfl
@[simp] theorem setSp_cost (v : Word) (s : State) : (setSp v s).cost = s.cost := rfl
@[simp] theorem setSp_busReads (v : Word) (s : State) : (setSp v s).busReads = s.busReads := rfl
@[simp] theorem setSp_stopped (v : Word) (s : State) : (setSp v s).stopped = s.stopped := rfl
@[simp] theorem readReg_setSp (r : Reg) (v : Word) (s : State) : readReg r (setSp v s) = readReg r s := by
  cases r <;> rfl

/-! ### noteRead -/

@[simp] theorem noteRead_a (ev : BusEvent) (s : State) : (noteRead ev s).a = s.a := rfl
@[simp] theorem noteRead_b (ev : BusEvent) (s : State) : (noteRead ev s).b = s.b := rfl
@[simp] theorem noteRead_c (ev : BusEvent) (s : State) : (noteRead ev s).c = s.c := rfl
@[simp] theorem noteRead_d (ev : BusEvent) (s : State) : (noteRead ev s).d = s.d := rfl
@[simp] theorem noteRead_e (ev : BusEvent) (s : State) : (noteRead ev s).e = s.e := rfl
@[simp] theorem noteRead_h (ev : BusEvent) (s : State) : (noteRead ev s).h = s.h := rfl
@[simp] theorem noteRead_l (ev : BusEvent) (s : State) : (noteRead ev s).l = s.l := rfl
@[simp] theorem noteRead_f (ev : BusEvent) (s : State) : (noteRead ev s).f = s.f := rfl
@[simp] theorem noteRead_pc (ev : BusEvent) (s : State) : (noteRead ev s).pc = s.pc := rfl
@[simp] theorem noteRead_sp (ev : BusEvent) (s : State) : (noteRead ev s).sp = s.sp := rfl
@[simp] theorem noteRead_clk (ev : BusEvent) (s : State) : (noteRead ev s).clk = s.clk := rfl
@[simp] theorem noteRead_last (ev : BusEvent) (s : State) : (noteRead ev s).last = s.last := rfl
@[simp] theorem noteRead_mem (ev : BusEvent) (s : State) : (noteRead ev s).mem = s.mem := rfl
@[simp] theorem noteRead_cfg (ev : BusEvent) (s : State) : (noteRead ev s).cfg = s.cfg := rfl
@[simp] theorem noteRead_events (ev : BusEvent) (s : State) : (noteRead ev s).events = s.events ++ [ev] := rfl
@[simp] theorem noteRead_cost (ev : BusEvent) (s : State) : (noteRead ev s).cost = s.cost := rfl
@[simp] theorem noteRead_busReads (ev : BusEvent) (s : State) : (noteRead ev s).busReads = s.busReads + 1 := rfl
@[simp] theorem noteRead_stopped (ev : BusEvent) (s : State) : (noteRead ev s).stopped = s.stopped := rfl
@[simp] theorem readReg_noteRead (r : Reg) (ev : BusEvent) (s : State) : readReg r (noteRead ev s) = readReg r s := by
  cases r <;> rfl

/-! ### memWrite1 -/

@[simp] theorem memWrite1_a (x : Word) (v : Byte) (s : State) : (memWrite1 x v s).a = s.a := rfl
@[simp] theorem memWrite1_b (x : Word) (v : Byte) (s : State) : (memWrite1 x v s).b = s.b := rfl
@[simp] theorem memWrite1_c (x : Word) (v : Byte) (s : State) : (memWrite1 x v s).c = s.c := rfl
@[simp] theorem memWrite1_d (x : Word) (v : Byte) (s : State) : (memWrite1 x v s).d = s.d := rfl
@[simp] theorem memWrite1_e (x : Word) (v : Byte) (s : State) : (memWrite1 x v s).e = s.e := rfl
@[simp] theorem memWrite1_h (x : Word) (v : Byte) (s : State) : (memWrite1 x v s).h = s.h := rfl
@[simp] theorem memWrite1_l (x : Word) (v : Byte) (s : State) : (memWrite1 x v s).l = s.l := rfl
@[simp] theorem memWrite1_f (x : Word) (v : Byte) (s : State) : (memWrite1 x v s).f = s.f := rfl
@[simp] theorem memWrite1_pc (x : Word) (v : Byte) (s : State) : (memWrite1 x v s).pc = s.pc := rfl
@[simp] theorem memWrite1_sp (x : Word) (v : Byte) (s : State) : (memWrite1 x v s).sp = s.sp := rfl
@[simp] theorem memWrite1_clk (x : Word) (v : Byte) (s : State) : (memWrite1 x v s).clk = s.clk := rfl
@[simp] theorem memWrite1_last (x : Word) (v : Byte) (s : State) : (memWrite1 x v s).last = s.last := rfl
@[simp] theorem memWrite1_mem (x : Word) (v : Byte) (s : State) : (memWrite1 x v s).mem = Memory.write s.mem x.toNat v := rfl
@[simp] theorem memWrite1_cfg (x : Word) (v : Byte) (s : State) : (memWrite1 x v s).cfg = s.cfg := rfl
@[simp] theorem memWrite1_events (x : Word) (v : Byte) (s : State) : (memWrite1 x v s).events = s.events ++ [.write1 x v] := rfl
@[simp] theorem memWrite1_cost (x : Word) (v : Byte) (s : State) : (memWrite1 x v s).cost = s.cost := rfl
@[simp] theorem memWrite1_busReads (x : Word) (v : Byte) (s : State) : (memWrite1 x v s).busReads = s.busReads := rfl
@[simp] theorem memWrite1_stopped (x : Word) (v : Byte) (s : State) : (memWrite1 x v s).stopped = s.stopped := rfl
@[simp] theorem readReg_memWrite1 (r : Reg) (x : Word) (v : Byte) (s : State) : readReg r (memWrite1 x v s) = readReg r s := by
  cases r <;> rfl

/-! ### memWrite2 -/

@[simp] theorem memWrite2_a (x v : Word) (s : State) : (memWrite2 x v s).a = s.a := rfl
@[simp] theorem memWrite2_b (x v : Word) (s : State) : (memWrite2 x v s).b = s.b := rfl
@[simp] theorem memWrite2_c (x v : Word) (s : State) : (memWrite2 x v s).c = s.c := rfl
@[simp] theorem memWrite2_d (x v : Word) (s : State) : (memWrite2 x v s).d = s.d := rfl
@[simp] theorem memWrite2_e (x v : Word) (s : State) : (memWrite2 x v s).e = s.e := rfl
@[simp] theorem memWrite2_h (x v : Word) (s : State) : (memWrite2 x v s).h = s.h := rfl
@[simp] theorem memWrite2_l (x v : Word) (s : State) : (memWrite2 x v s).l = s.l := rfl
@[simp] theorem memWrite2_f (x v : Word) (s : State) : (memWrite2 x v s).f = s.f := rfl
@[simp] theorem memWrite2_pc (x v : Word) (s : State) : (memWrite2 x v s).pc = s.pc := rfl
@[simp] theorem memWrite2_sp (x v : Word) (s : State) : (memWrite2 x v s).sp = s.sp := rfl
@[simp] theorem memWrite2_clk (x v : Word) (s : State) : (memWrite2 x v s).clk = s.clk := rfl
@[simp] theorem memWrite2_last (x v : Word) (s : State) : (memWrite2 x v s).last = s.last := rfl
@[simp] theorem memWrite2_mem (x v : Word) (s : State) : (memWrite2 x v s).mem = Memory.write (Memory.write s.mem x.toNat (split v).2) (x + 1#16).toNat (split v).1 := rfl
@[simp] theorem memWrite2_cfg (x v : Word) (s : State) : (memWrite2 x v s).cfg = s.cfg := rfl
@[simp] theorem memWrite2_events (x v : Word) (s : State) : (memWrite2 x v s).events = s.events ++ [.write2 x v] := rfl
@[simp] theorem memWrite2_cost (x v : Word) (s : State) : (memWrite2 x v s).cost = s.cost := rfl
@[simp] theorem memWrite2_busReads (x v : Word) (s : State) : (memWrite2 x v s).busReads = s.busReads := rfl
@[simp] theorem memWrite2_stopped (x v : Word) (s : State) : (memWrite2 x v s).stopped = s.stopped := rfl
@[simp] theorem readReg_memWrite2 (r : Reg) (x v : Word) (s : State) : readReg r (memWrite2 x v s) = readReg r s := by
  cases r <;> rfl

/-! ### charge -/

@[simp] theorem charge_a (m t : Nat) (s : State) : (charge m t s).a = s.a := rfl
@[simp] theorem charge_b (m t : Nat) (s : State) : (charge m t s).b = s.b := rfl
@[simp] theorem charge_c (m t : Nat) (s : State) : (charge m t s).c = s.c := rfl
@[simp] theorem charge_d (m t : Nat) (s : State) : (charge m t s).d = s.d := rfl
@[simp] theorem charge_e (m t : Nat) (s : State) : (charge m t s).e = s.e := rfl
@[simp] theorem charge_h (m t : Nat) (s : State) : (charge m t s).h = s.h := rfl
@[simp] theorem charge_l (m t : Nat) (s : State) : (charge m t s).l = s.l := rfl
@[simp] theorem charge_f (m t : Nat) (s : State) : (charge m t s).f = s.f := rfl
@[simp] theorem charge_pc (m t : Nat) (s : State) : (charge m t s).pc = s.pc := rfl
@[simp] theorem charge_sp (m t : Nat) (s : State) : (charge m t s).sp = s.sp := rfl
@[simp] theorem charge_clk (m t : Nat) (s : State) : (charge m t s).clk = s.clk := rfl
@[simp] theorem charge_last (m t : Nat) (s : State) : (charge m t s).last = wrapCycles s.cfg.clkBits m t := rfl
@[simp] theorem charge_mem (m t : Nat) (s : State) : (charge m t s).mem = s.mem := rfl
@[simp] theorem charge_cfg (m t : Nat) (s : State) : (charge m t s).cfg = s.cfg := rfl
@[simp] theorem charge_events (m t : Nat) (s : State) : (charge m t s).events = s.events := rfl
@[simp] theorem charge_cost (m t : Nat) (s : State) : (charge m t s).cost = s.cost := rfl
@[simp] theorem charge_busReads (m t : Nat) (s : State) : (charge m t s).busReads = s.busReads := rfl
@[simp] theorem charge_stopped (m t : Nat) (s : State) : (charge m t s).stopped = s.stopped := rfl
@[simp] theorem readReg_charge (r : Reg) (m t : Nat) (s : State) : readReg r (charge m t s) = readReg r s := by
  cases r <;> rfl

/-! ### setFlags -/

@[simp] theorem setFlags_a (z n h c : Bool) (s : State) : (setFlags z n h c s).a = s.a := rfl
@[simp] theorem setFlags_b (z n h c : Bool) (s : State) : (setFlags z n h c s).b = s.b := rfl
@[simp] theorem setFlags_c (z n h c : Bool) (s : State) : (setFlags z n h c s).c = s.c := rfl
@[simp] theorem setFlags_d (z n h c : Bool) (s : State) : (setFlags z n h c s).d = s.d := rfl
@[simp] theorem setFlags_e (z n h c : Bool) (s : State) : (setFlags z n h c s).e = s.e := rfl
@[simp] theorem setFlags_h (z n h c : Bool) (s : State) : (setFlags z n h c s).h = s.h := rfl
@[simp] theorem setFlags_l (z n h c : Bool) (s : State) : (setFlags z n h c s).l = s.l := rfl
@[simp] theorem setFlags_f (z n h c : Bool) (s : State) : (setFlags z n h c s).f = flagByte z n h c := rfl
@[simp] theorem setFlags_pc (z n h c : Bool) (s : State) : (setFlags z n h c s).pc = s.pc := rfl
@[simp] theorem setFlags_sp (z n h c : Bool) (s : State) : (setFlags z n h c s).sp = s.sp := rfl
@[simp] theorem setFlags_clk (z n h c : Bool) (s : State) : (setFlags z n h c s).clk = s.clk := rfl
@[simp] theorem setFlags_last (z n h c : Bool) (s : State) : (setFlags z n h c s).last = s.last := rfl
@[simp] theorem setFlags_mem (z n h c : Bool) (s : State) : (setFlags z n h c s).mem = s.mem := rfl
@[simp] theorem setFlags_cfg (z n h c : Bool) (s : State) : (setFlags z n h c s).cfg = s.cfg := rfl
@[simp] theorem setFlags_events (z n h c : Bool) (s : State) : (setFlags z n h c s).events = s.events := rfl
@[simp] theorem setFlags_cost (z n h c : Bool) (s : State) : (setFlags z n h c s).cost = s.cost := rfl
@[simp] theorem setFlags_busReads (z n h c : Bool) (s : State) : (setFlags z n h c s).busReads = s.busReads := rfl
@[simp] theorem setFlags_stopped (z n h c : Bool) (s : State) : (setFlags z n h c s).stopped = s.stopped := rfl
@[simp] theorem readReg_setFlags (r : Reg) (z n h c : Bool) (s : State) :
    readReg r (setFlags z n h c s) = if r = .F then flagByte z n h c else readReg r s := by
  cases r <;> rfl

/-! ### beginStep -/

@[simp] theorem beginStep_a (s : State) : (beginStep s).a = s.a := rfl
@[simp] theorem beginStep_b (s : State) : (beginStep s).b = s.b := rfl
@[simp] theorem beginStep_c (s : State) : (beginStep s).c = s.c := rfl
@[simp] theorem beginStep_d (s : State) : (beginStep s).d = s.d := rfl
@[simp] theorem beginStep_e (s : State) : (beginStep s).e = s.e := rfl
@[simp] theorem beginStep_h (s : State) : (beginStep s).h = s.h := rfl
@[simp] theorem beginStep_l (s : State) : (beginStep s).l = s.l := rfl
@[simp] theorem beginStep_f (s : State) : (beginStep s).f = s.f := rfl
@[simp] theorem beginStep_pc (s : State) : (beginStep s).pc = s.pc := rfl
@[simp] theorem beginStep_sp (s : State) : (beginStep s).sp = s.sp := rfl
@[simp] theorem beginStep_clk (s : State) : (beginStep s).clk = s.clk := rfl
@[simp] theorem beginStep_last (s : State) : (beginStep s).last = s.last := rfl
@[simp] theorem beginStep_mem (s : State) : (beginStep s).mem = s.mem := rfl
@[simp] theorem beginStep_cfg (s : State) : (beginStep s).cfg = s.cfg := rfl
@[simp] theorem beginStep_events (s : State) : (beginStep s).events = [] := rfl
@[simp] theorem beginStep_cost (s : State) : (beginStep s).cost = none := rfl
@[simp] theorem beginStep_busReads (s : State) : (beginStep s).busReads = s.busReads := rfl
@[simp] theorem beginStep_stopped (s : State) : (beginStep s).stopped = s.stopped := rfl
@[simp] theorem readReg_beginStep (r : Reg) (s : State) : readReg r (beginStep s) = readReg r s := by
  cases r <;> rfl

/-! ### endStep -/

@[simp] theorem endStep_a (s : State) : (endStep s).a = s.a := rfl
@[simp] theorem endStep_b (s : State) : (endStep s).b = s.b := rfl
@[simp] theorem endStep_c (s : State) : (endStep s).c = s.c := rfl
@[simp] theorem endStep_d (s : State) : (endStep s).d = s.d := rfl
@[simp] theorem endStep_e (s : State) : (endStep s).e = s.e := rfl
@[simp] theorem endStep_h (s : State) : (endStep s).h = s.h := rfl
@[simp] theorem endStep_l (s : State) : (endStep s).l = s.l := rfl
@[simp] theorem endStep_f (s : State) : (endStep s).f = s.f := rfl
@[simp] theorem endStep_pc (s : State) : (endStep s).pc = s.pc := rfl
@[simp] theorem endStep_sp (s : State) : (endStep s).sp = s.sp := rfl
@[simp] theorem endStep_clk (s : State) : (endStep s).clk = wrapCycles s.cfg.clkBits (s.clk.m + s.last.m) (s.clk.t + s.last.t) := rfl
@[simp] theorem endStep_last (s : State) : (endStep s).last = ⟨0, 0⟩ := rfl
@[simp] theorem endStep_mem (s : State) : (endStep s).mem = s.mem := rfl
@[simp] theorem endStep_cfg (s : State) : (endStep s).cfg = s.cfg := rfl
@[simp] theorem endStep_events (s : State) : (endStep s).events = s.events := rfl
@[simp] theorem endStep_cost (s : State) : (endStep s).cost = some s.last := rfl
@[simp] theorem endStep_busReads (s : State) : (endStep s).busReads = s.busReads := rfl
@[simp] theorem endStep_stopped (s : State) : (endStep s).stopped = s.stopped := rfl
@[simp] theorem readReg_endStep (r : Reg) (s : State) : readReg r (endStep s) = readReg r s := by
  cases r <;> rfl

/-! ### hostPoke -/

@[simp] theorem hostPoke_a (x : Word) (v : Byte) (s : State) : (hostPoke x v s).a = s.a := rfl
@[simp] theorem hostPoke_b (x : Word) (v : Byte) (s : State) : (hostPoke x v s).b = s.b := rfl
@[simp] theorem hostPoke_c (x : Word) (v : Byte) (s : State) : (hostPoke x v s).c = s.c := rfl
@[simp] theorem hostPoke_d (x : Word) (v : Byte) (s : State) : (hostPoke x v s).d = s.d := rfl
@[simp] theorem hostPoke_e (x : Word) (v : Byte) (s : State) : (hostPoke x v s).e = s.e := rfl
@[simp] theorem hostPoke_h (x : Word) (v : Byte) (s : State) : (hostPoke x v s).h = s.h := rfl
@[simp] theorem hostPoke_l (x : Word) (v : Byte) (s : State) : (hostPoke x v s).l = s.l := rfl
@[simp] theorem hostPoke_f (x : Word) (v : Byte) (s : State) : (hostPoke x v s).f = s.f := rfl
@[simp] theorem hostPoke_pc (x : Word) (v : Byte) (s : State) : (hostPoke x v s).pc = s.pc := rfl
@[simp] theorem hostPoke_sp (x : Word) (v : Byte) (s : State) : (hostPoke x v s).sp = s.sp := rfl
@[simp] theorem hostPoke_clk (x : Word) (v : Byte) (s : State) : (hostPoke x v s).clk = s.clk := rfl
@[simp] theorem hostPoke_last (x : Word) (v : Byte) (s : State) : (hostPoke x v s).last = s.last := rfl
@[simp] theorem hostPoke_mem (x : Word) (v : Byte) (s : State) : (hostPoke x v s).mem = Memory.write s.mem x.toNat v := rfl
@[simp] theorem hostPoke_cfg (x : Word) (v : Byte) (s : State) : (hostPoke x v s).cfg = s.cfg := rfl
@[simp] theorem hostPoke_events (x : Word) (v : Byte) (s : State) : (hostPoke x v s).events = s.events := rfl
@[simp] theorem hostPoke_cost (x : Word) (v : Byte) (s : State) : (hostPoke x v s).cost = s.cost := rfl
@[simp] theorem hostPoke_busReads (x : Word) (v : Byte) (s : State) : (hostPoke x v s).busReads = s.busReads := rfl
@[simp] theorem hostPoke_stopped (x : Word) (v : Byte) (s : State) : (hostPoke x v s).stopped = s.stopped := rfl
@[simp] theorem readReg_hostPoke (r : Reg) (x : Word) (v : Byte) (s : State) : readReg r (hostPoke x v s) = readReg r s := by
  cases r <;> rfl

/-! ### writeReg -/

@[simp] theorem writeReg_pc (r : Reg) (v : Byte) (s : State) : (writeReg r v s).pc = s.pc := by
  cases r <;> rfl
@[simp] theorem writeReg_sp (r : Reg) (v : Byte) (s : State) : (writeReg r v s).sp = s.sp := by
  cases r <;> rfl
@[simp] theorem writeReg_clk (r : Reg) (v : Byte) (s : State) : (writeReg r v s).clk = s.clk := by
  cases r <;> rfl
@[simp] theorem writeReg_last (r : Reg) (v : Byte) (s : State) : (writeReg r v s).last = s.last := by
  cases r <;> rfl
@[simp] theorem writeReg_mem (r : Reg) (v : Byte) (s : State) : (writeReg r v s).mem = s.mem := by
  cases r <;> rfl
@[simp] theorem writeReg_cfg (r : Reg) (v : Byte) (s : State) : (writeReg r v s).cfg = s.cfg := by
  cases r <;> rfl
@[simp] theorem writeReg_events (r : Reg) (v : Byte) (s : State) : (writeReg r v s).events = s.events := by
  cases r <;> rfl
@[simp] theorem writeReg_cost (r : Reg) (v : Byte) (s : State) : (writeReg r v s).cost = s.cost := by
  cases r <;> rfl
@[simp] theorem writeReg_busReads (r : Reg) (v : Byte) (s : State) : (writeReg r v s).busReads = s.busReads := by
  cases r <;> rfl
@[simp] theorem writeReg_stopped (r : Reg) (v : Byte) (s : State) : (writeReg r v s).stopped = s.stopped := by
  cases r <;> rfl

/-- A register read after a register write: the value written (F masked, R26), or what it was. -/
@[simp] theorem readReg_writeReg (q r : Reg) (v : Byte) (s : State) :
    readReg q (writeReg r v s) = if q = r then (if r = .F then v &&& 0xF0#8 else v) else readReg q s := by
  cases q <;> cases r <;> rfl

/-! ### Registers by name -/

@[simp] theorem readReg_A (s : State) : readReg .A s = s.a := rfl
@[simp] theorem readReg_B (s : State) : readReg .B s = s.b := rfl
@[simp] theorem readReg_C (s : State) : readReg .C s = s.c := rfl
@[simp] theorem readReg_D (s : State) : readReg .D s = s.d := rfl
@[simp] theorem readReg_E (s : State) : readReg .E s = s.e := rfl
@[simp] theorem readReg_H (s : State) : readReg .H s = s.h := rfl
@[simp] theorem readReg_L (s : State) : readReg .L s = s.l := rfl
@[simp] theorem readReg_F (s : State) : readReg .F s = s.f := rfl

theorem writeReg_A (v : Byte) (s : State) : writeReg .A v s = { s with a := v } := rfl
theorem writeReg_B (v : Byte) (s : State) : writeReg .B v s = { s with b := v } := rfl
theorem writeReg_C (v : Byte) (s : State) : writeReg .C v s = { s with c := v } := rfl
theorem writeReg_D (v : Byte) (s : State) : writeReg .D v s = { s with d := v } := rfl
theorem writeReg_E (v : Byte) (s : State) : writeReg .E v s = { s with e := v } := rfl
theorem writeReg_H (v : Byte) (s : State) : writeReg .H v s = { s with h := v } := rfl
theorem writeReg_L (v : Byte) (s : State) : writeReg .L v s = { s with l := v } := rfl
theorem writeReg_F (v : Byte) (s : State) : writeReg .F v s = { s with f := v &&& 0xF0#8 } := rfl

end Sys2Proof.Machine
end

