-- ==== Sys2Proof/Laws/Ops.lean ====
section
/-! SUPPORT. One lemma per shared operation that says what it does: bus reads, fetches, join and split, flags. -/

namespace Sys2Proof.Machine

/-! ### Bits -/

theorem join_toNat (h l : Byte) : (join h l).toNat = h.toNat * 256 + l.toNat := by
  have := h.isLt
  have := l.isLt
  simp only [join]
  rw [BitVec.toNat_or, BitVec.toNat_shiftLeft, BitVec.toNat_setWidth, BitVec.toNat_setWidth,
    Nat.mod_eq_of_lt (by omega : h.toNat < 2 ^ 16), Nat.mod_eq_of_lt (by omega : l.toNat < 2 ^ 16),
    Nat.mod_eq_of_lt (by simp [Nat.shiftLeft_eq]; omega), ← Nat.shiftLeft_add_eq_or_of_lt (by omega),
    Nat.shiftLeft_eq]

theorem split_fst_toNat (v : Word) : (split v).1.toNat = v.toNat / 256 := by
  have := v.isLt
  simp only [split, BitVec.toNat_setWidth, BitVec.toNat_ushiftRight, Nat.shiftRight_eq_div_pow]
  omega

theorem split_snd_toNat (v : Word) : (split v).2.toNat = v.toNat % 256 := by
  simp [split]

/-- `split(join(h, l)) = (h, l)` (R24). -/
@[simp] theorem split_join (h l : Byte) : split (join h l) = (h, l) := by
  have := l.isLt
  apply Prod.ext <;> apply BitVec.eq_of_toNat_eq
  · rw [split_fst_toNat, join_toNat]
    show _ = h.toNat
    omega
  · rw [split_snd_toNat, join_toNat]
    show _ = l.toNat
    omega

/-- `join(split(v)) = v` (R24). -/
@[simp] theorem join_split (v : Word) : join (split v).1 (split v).2 = v := by
  apply BitVec.eq_of_toNat_eq
  rw [join_toNat, split_fst_toNat, split_snd_toNat]
  omega

/-! ### The bus -/

theorem busByte_ram {s : State} (h : s.cfg.bus = .ram) (x : Word) : busByte x s = Memory.read s.mem x.toNat := by
  simp [busByte, h]

theorem busWord_ram {s : State} (h : s.cfg.bus = .ram) (x : Word) :
    busWord x s = join (Memory.read s.mem (x + 1#16).toNat) (Memory.read s.mem x.toNat) := by
  simp [busWord, h]

/-- What the bus answers depends on the bus kind, the memory and the count of reads alone. -/
theorem busByte_congr {s t : State} (hc : t.cfg = s.cfg) (hm : t.mem = s.mem) (hr : t.busReads = s.busReads)
    (x : Word) : busByte x t = busByte x s := by
  simp [busByte, hc, hm, hr]

theorem busWord_congr {s t : State} (hc : t.cfg = s.cfg) (hm : t.mem = s.mem) (hr : t.busReads = s.busReads)
    (x : Word) : busWord x t = busWord x s := by
  simp [busWord, hc, hm, hr]

@[simp] theorem busByte_advancePc (x k : Word) (s : State) : busByte x (advancePc k s) = busByte x s := rfl
@[simp] theorem busByte_setSp (x v : Word) (s : State) : busByte x (setSp v s) = busByte x s := rfl
@[simp] theorem busByte_charge (x : Word) (m t : Nat) (s : State) : busByte x (charge m t s) = busByte x s := rfl
@[simp] theorem busByte_beginStep (x : Word) (s : State) : busByte x (beginStep s) = busByte x s := rfl
@[simp] theorem busByte_setFlags (x : Word) (z n h c : Bool) (s : State) :
    busByte x (setFlags z n h c s) = busByte x s := rfl
@[simp] theorem busByte_writeReg (x : Word) (r : Reg) (v : Byte) (s : State) :
    busByte x (writeReg r v s) = busByte x s := by
  cases r <;> rfl
@[simp] theorem busWord_beginStep (x : Word) (s : State) : busWord x (beginStep s) = busWord x s := rfl
@[simp] theorem busWord_advancePc (x k : Word) (s : State) : busWord x (advancePc k s) = busWord x s := rfl

/-- On the RAM bus a read changes no later answer. -/
theorem busByte_noteRead_ram {s : State} (h : s.cfg.bus = .ram) (x : Word) (ev : BusEvent) :
    busByte x (noteRead ev s) = busByte x s := by
  simp [busByte, h]

@[simp] theorem memRead1_fst (x : Word) (s : State) : (memRead1 x s).1 = busByte x s := rfl
@[simp] theorem memRead1_snd (x : Word) (s : State) :
    (memRead1 x s).2 = noteRead (.read1 x (busByte x s)) s := rfl
@[simp] theorem memRead2_fst (x : Word) (s : State) : (memRead2 x s).1 = busWord x s := rfl
@[simp] theorem memRead2_snd (x : Word) (s : State) :
    (memRead2 x s).2 = noteRead (.read2 x (busWord x s)) s := rfl
@[simp] theorem fetch8_fst (s : State) : (fetch8 s).1 = busByte s.pc s := rfl
@[simp] theorem fetch8_snd (s : State) :
    (fetch8 s).2 = advancePc 1#16 (noteRead (.read1 s.pc (busByte s.pc s)) s) := rfl
@[simp] theorem fetch16_fst (s : State) : (fetch16 s).1 = busWord s.pc s := rfl
@[simp] theorem fetch16_snd (s : State) :
    (fetch16 s).2 = advancePc 2#16 (noteRead (.read2 s.pc (busWord s.pc s)) s) := rfl

/-- The opcode fetch (R211). -/
@[simp] theorem fetchOpcode_fst (s : State) : (fetchOpcode s).1 = busByte s.pc s := rfl
theorem fetchOpcode_snd (s : State) :
    (fetchOpcode s).2 = advancePc 1#16 (noteRead (.read1 s.pc (busByte s.pc s)) (beginStep s)) := rfl

/-! ### Pairs and operand registers -/

theorem readPair_eq (p : Pair) (s : State) : readPair p s = join (readReg (pairHi p) s) (readReg (pairLo p) s) := rfl

@[simp] theorem opndReg_A : opndReg .A = .A := rfl

/-- An operand register is not F (R13). -/
theorem opndReg_ne_F (o : Opnd) : opndReg o ≠ .F := by cases o <;> decide

theorem pairHi_ne_F (p : Pair) : pairHi p ≠ .F := by cases p <;> decide

/-! ### Flags -/

/-- The byte of four flags has its low nibble at 0 (R26). -/
@[simp] theorem flagByte_low (z n h c : Bool) : flagByte z n h c &&& 0x0F#8 = 0#8 := by
  cases z <;> cases n <;> cases h <;> cases c <;> decide

/-- A register write keeps F's low nibble at 0 (R26). -/
theorem writeReg_fLow {r : Reg} {v : Byte} {s : State} (h : s.f &&& 0x0F#8 = 0#8) :
    (writeReg r v s).f &&& 0x0F#8 = 0#8 := by
  cases r <;> first | exact h | (show (v &&& 0xF0#8) &&& 0x0F#8 = 0#8; rw [BitVec.and_assoc]; simp)

end Sys2Proof.Machine
end

