-- ==== Sys2Proof/Laws/Forms.lean ====
section
/-! SUPPORT. The 158 implemented opcodes seen as the forms of R73: what each form's operation is as a function of the
state, `exec` and `step` in those terms, and what holds of every form's operation. -/

namespace Sys2Proof.Machine

/-- The operation of a form (the pseudocode of its rule). -/
def runForm (f : Form) (s : State) : State :=
  match f with
  | .ldRegReg d r => loadRegReg d r s
  | .ldRegImm d => loadRegImm d s
  | .ldRegAtHL d => loadRegAt d (readPair .HL s) s
  | .ldAtHLReg r => storeRegAt r (readPair .HL s) s
  | .ldAtHLImm => storeImmAtHL s
  | .ldAAtBC => loadRegAt .A (readPair .BC s) s
  | .ldAAtDE => loadRegAt .A (readPair .DE s) s
  | .ldAtBCA => storeRegAt .A (readPair .BC s) s
  | .ldAtDEA => storeRegAt .A (readPair .DE s) s
  | .ldAAbs => loadAAbs s
  | .ldAbsA => storeAAbs s
  | .ldAHighC => loadRegAt .A (highPage (readReg .C s)) s
  | .ldHighCA => storeRegAt .A (highPage (readReg .C s)) s
  | .ldiAtHLA => storeAThen hlInc s
  | .ldiAAtHL => loadAThen hlInc s
  | .lddAtHLA => storeAThen hlDec s
  | .lddAAtHL => loadAThen hlDec s
  | .ldhAtNA => storeAHigh s
  | .ldhAAtN => loadAHigh s
  | .ldPairImm p => loadPairImm p s
  | .ldSpImm => loadSpImm s
  | .ldSpHL => loadSpHL s
  | .ldAbsSp => storeSpAbs s
  | .ldhlSp => loadHLSpImm s
  | .push p => pushPair p s
  | .pop p => popPair (mainPair p) s
  | .popAF => popPair .AF s
  | .alu op src => aluInstr op src s
  | .nop => charge 1 4 s
  | .halt => charge 1 4 s
  | .di => charge 1 4 s
  | .ei => charge 1 4 s

/-- The outcome of a table entry (R210). -/
def runEntry (e : Entry) (s : State) : StepOut :=
  match e with
  | .impl f => .next (runForm f s)
  | .fatal k op => raiseFatal k op s

/-- `exec` is the outcome of the instruction's table entry: the one case split over the 256 instructions. -/
theorem exec_eq_runEntry (i : Instr) (s : State) : exec i s = runEntry i.entry s := by
  cases i <;> rfl

/-- Each form's entry is that form. -/
theorem entry_instr (f : Form) : f.instr.entry = .impl f := by
  rcases f with ⟨d, r⟩ | ⟨d⟩ | ⟨d⟩ | ⟨r⟩ | _ | _ | _ | _ | _ | _ | _ | _ | _ | _ | _ | _ | _ | _ | _ | ⟨p⟩ | _ | _ | _ |
    _ | ⟨p⟩ | ⟨p⟩ | _ | ⟨op, ⟨r⟩ | _ | _⟩ | _ | _ | _ | _
  case ldRegReg => cases d <;> cases r <;> rfl
  case ldRegImm => cases d <;> rfl
  case ldRegAtHL => cases d <;> rfl
  case ldAtHLReg => cases r <;> rfl
  case ldPairImm => cases p <;> rfl
  case push => cases p <;> rfl
  case pop => cases p <;> rfl
  case alu.reg => cases op <;> cases r <;> rfl
  case alu.atHL => cases op <;> rfl
  case alu.imm => cases op <;> rfl
  all_goals rfl

/-- Every implemented instruction is the instruction of its form. -/
theorem instr_of_entry {i : Instr} {f : Form} (h : i.entry = .impl f) : f.instr = i := by
  cases i <;> first | (cases h; rfl) | cases h

/-- `exec` of a form's instruction is the form's operation. -/
theorem exec_instr (f : Form) (s : State) : exec f.instr s = .next (runForm f s) := by
  rw [exec_eq_runEntry, entry_instr]
  rfl

/-- A step of a running CPU (R210). -/
theorem step_running {s : State} (h : s.stopped = none) :
    step s =
      match exec (decodeOpcode (busByte s.pc s)) (fetchOpcode s).2 with
      | .next t => .next (endStep t)
      | .fault r => .fault r
      | .refused r => .refused r := by
  simp only [step, h]
  rfl

/-- Everything a step that answers a next state can be: the fetched byte's form ran. -/
theorem step_next {s t : State} (h : step s = .next t) :
    s.stopped = none ∧ ∃ f, (decodeOpcode (busByte s.pc s)).entry = .impl f ∧
      t = endStep (runForm f (fetchOpcode s).2) := by
  unfold step at h
  split at h
  · cases h
  · rename_i hs
    refine ⟨hs, ?_⟩
    rw [exec_eq_runEntry, fetchOpcode_fst] at h
    cases he : (decodeOpcode (busByte s.pc s)).entry with
    | impl f =>
      rw [he] at h
      exact ⟨f, rfl, (Host.Outcome.next.inj h).symm⟩
    | fatal k op =>
      rw [he] at h
      cases h

end Sys2Proof.Machine
end

