-- ==== Sys2Proof/Laws/PerInstr.lean ====
section
/-! SUPPORT. Statements for all instructions, one lemma per constructor: the opcode map (R75) and the bit patterns and
fault list (R73, R232) name the same instruction at the same byte. -/

namespace Sys2Proof.Laws.OpcodeRoundTrip

/-- The map's entry at an instruction's opcode byte is that instruction. -/
def Statement (i : Instr) : Prop := decodeOpcode (opcodeOf i) = i

theorem nop : Statement .nop := rfl
theorem ldBC_nn : Statement .ldBC_nn := rfl
theorem ldAtBC_A : Statement .ldAtBC_A := rfl
theorem incBC : Statement .incBC := rfl
theorem incB : Statement .incB := rfl
theorem decB : Statement .decB := rfl
theorem ldB_n : Statement .ldB_n := rfl
theorem rlca : Statement .rlca := rfl
theorem ldAtNN_SP : Statement .ldAtNN_SP := rfl
theorem addHL_BC : Statement .addHL_BC := rfl
theorem ldA_atBC : Statement .ldA_atBC := rfl
theorem decBC : Statement .decBC := rfl
theorem incC : Statement .incC := rfl
theorem decC : Statement .decC := rfl
theorem ldC_n : Statement .ldC_n := rfl
theorem rrca : Statement .rrca := rfl
theorem stop : Statement .stop := rfl
theorem ldDE_nn : Statement .ldDE_nn := rfl
theorem ldAtDE_A : Statement .ldAtDE_A := rfl
theorem incDE : Statement .incDE := rfl
theorem incD : Statement .incD := rfl
theorem decD : Statement .decD := rfl
theorem ldD_n : Statement .ldD_n := rfl
theorem rla : Statement .rla := rfl
theorem jrE : Statement .jrE := rfl
theorem addHL_DE : Statement .addHL_DE := rfl
theorem ldA_atDE : Statement .ldA_atDE := rfl
theorem decDE : Statement .decDE := rfl
theorem incE : Statement .incE := rfl
theorem decE : Statement .decE := rfl
theorem ldE_n : Statement .ldE_n := rfl
theorem rra : Statement .rra := rfl
theorem jrNZ_e : Statement .jrNZ_e := rfl
theorem ldHL_nn : Statement .ldHL_nn := rfl
theorem ldiAtHL_A : Statement .ldiAtHL_A := rfl
theorem incHL : Statement .incHL := rfl
theorem incH : Statement .incH := rfl
theorem decH : Statement .decH := rfl
theorem ldH_n : Statement .ldH_n := rfl
theorem daa : Statement .daa := rfl
theorem jrZ_e : Statement .jrZ_e := rfl
theorem addHL_HL : Statement .addHL_HL := rfl
theorem ldiA_atHL : Statement .ldiA_atHL := rfl
theorem decHL : Statement .decHL := rfl
theorem incL : Statement .incL := rfl
theorem decL : Statement .decL := rfl
theorem ldL_n : Statement .ldL_n := rfl
theorem cpl : Statement .cpl := rfl
theorem jrNC_e : Statement .jrNC_e := rfl
theorem ldSP_nn : Statement .ldSP_nn := rfl
theorem lddAtHL_A : Statement .lddAtHL_A := rfl
theorem incSP : Statement .incSP := rfl
theorem incAtHL : Statement .incAtHL := rfl
theorem decAtHL : Statement .decAtHL := rfl
theorem ldAtHL_n : Statement .ldAtHL_n := rfl
theorem scf : Statement .scf := rfl
theorem jrC_e : Statement .jrC_e := rfl
theorem addHL_SP : Statement .addHL_SP := rfl
theorem lddA_atHL : Statement .lddA_atHL := rfl
theorem decSP : Statement .decSP := rfl
theorem incA : Statement .incA := rfl
theorem decA : Statement .decA := rfl
theorem ldA_n : Statement .ldA_n := rfl
theorem ccf : Statement .ccf := rfl
theorem ldB_B : Statement .ldB_B := rfl
theorem ldB_C : Statement .ldB_C := rfl
theorem ldB_D : Statement .ldB_D := rfl
theorem ldB_E : Statement .ldB_E := rfl
theorem ldB_H : Statement .ldB_H := rfl
theorem ldB_L : Statement .ldB_L := rfl
theorem ldB_atHL : Statement .ldB_atHL := rfl
theorem ldB_A : Statement .ldB_A := rfl
theorem ldC_B : Statement .ldC_B := rfl
theorem ldC_C : Statement .ldC_C := rfl
theorem ldC_D : Statement .ldC_D := rfl
theorem ldC_E : Statement .ldC_E := rfl
theorem ldC_H : Statement .ldC_H := rfl
theorem ldC_L : Statement .ldC_L := rfl
theorem ldC_atHL : Statement .ldC_atHL := rfl
theorem ldC_A : Statement .ldC_A := rfl
theorem ldD_B : Statement .ldD_B := rfl
theorem ldD_C : Statement .ldD_C := rfl
theorem ldD_D : Statement .ldD_D := rfl
theorem ldD_E : Statement .ldD_E := rfl
theorem ldD_H : Statement .ldD_H := rfl
theorem ldD_L : Statement .ldD_L := rfl
theorem ldD_atHL : Statement .ldD_atHL := rfl
theorem ldD_A : Statement .ldD_A := rfl
theorem ldE_B : Statement .ldE_B := rfl
theorem ldE_C : Statement .ldE_C := rfl
theorem ldE_D : Statement .ldE_D := rfl
theorem ldE_E : Statement .ldE_E := rfl
theorem ldE_H : Statement .ldE_H := rfl
theorem ldE_L : Statement .ldE_L := rfl
theorem ldE_atHL : Statement .ldE_atHL := rfl
theorem ldE_A : Statement .ldE_A := rfl
theorem ldH_B : Statement .ldH_B := rfl
theorem ldH_C : Statement .ldH_C := rfl
theorem ldH_D : Statement .ldH_D := rfl
theorem ldH_E : Statement .ldH_E := rfl
theorem ldH_H : Statement .ldH_H := rfl
theorem ldH_L : Statement .ldH_L := rfl
theorem ldH_atHL : Statement .ldH_atHL := rfl
theorem ldH_A : Statement .ldH_A := rfl
theorem ldL_B : Statement .ldL_B := rfl
theorem ldL_C : Statement .ldL_C := rfl
theorem ldL_D : Statement .ldL_D := rfl
theorem ldL_E : Statement .ldL_E := rfl
theorem ldL_H : Statement .ldL_H := rfl
theorem ldL_L : Statement .ldL_L := rfl
theorem ldL_atHL : Statement .ldL_atHL := rfl
theorem ldL_A : Statement .ldL_A := rfl
theorem ldAtHL_B : Statement .ldAtHL_B := rfl
theorem ldAtHL_C : Statement .ldAtHL_C := rfl
theorem ldAtHL_D : Statement .ldAtHL_D := rfl
theorem ldAtHL_E : Statement .ldAtHL_E := rfl
theorem ldAtHL_H : Statement .ldAtHL_H := rfl
theorem ldAtHL_L : Statement .ldAtHL_L := rfl
theorem halt : Statement .halt := rfl
theorem ldAtHL_A : Statement .ldAtHL_A := rfl
theorem ldA_B : Statement .ldA_B := rfl
theorem ldA_C : Statement .ldA_C := rfl
theorem ldA_D : Statement .ldA_D := rfl
theorem ldA_E : Statement .ldA_E := rfl
theorem ldA_H : Statement .ldA_H := rfl
theorem ldA_L : Statement .ldA_L := rfl
theorem ldA_atHL : Statement .ldA_atHL := rfl
theorem ldA_A : Statement .ldA_A := rfl
theorem addA_B : Statement .addA_B := rfl
theorem addA_C : Statement .addA_C := rfl
theorem addA_D : Statement .addA_D := rfl
theorem addA_E : Statement .addA_E := rfl
theorem addA_H : Statement .addA_H := rfl
theorem addA_L : Statement .addA_L := rfl
theorem addA_atHL : Statement .addA_atHL := rfl
theorem addA_A : Statement .addA_A := rfl
theorem adcA_B : Statement .adcA_B := rfl
theorem adcA_C : Statement .adcA_C := rfl
theorem adcA_D : Statement .adcA_D := rfl
theorem adcA_E : Statement .adcA_E := rfl
theorem adcA_H : Statement .adcA_H := rfl
theorem adcA_L : Statement .adcA_L := rfl
theorem adcA_atHL : Statement .adcA_atHL := rfl
theorem adcA_A : Statement .adcA_A := rfl
theorem subA_B : Statement .subA_B := rfl
theorem subA_C : Statement .subA_C := rfl
theorem subA_D : Statement .subA_D := rfl
theorem subA_E : Statement .subA_E := rfl
theorem subA_H : Statement .subA_H := rfl
theorem subA_L : Statement .subA_L := rfl
theorem subA_atHL : Statement .subA_atHL := rfl
theorem subA_A : Statement .subA_A := rfl
theorem sbcA_B : Statement .sbcA_B := rfl
theorem sbcA_C : Statement .sbcA_C := rfl
theorem sbcA_D : Statement .sbcA_D := rfl
theorem sbcA_E : Statement .sbcA_E := rfl
theorem sbcA_H : Statement .sbcA_H := rfl
theorem sbcA_L : Statement .sbcA_L := rfl
theorem sbcA_atHL : Statement .sbcA_atHL := rfl
theorem sbcA_A : Statement .sbcA_A := rfl
theorem andA_B : Statement .andA_B := rfl
theorem andA_C : Statement .andA_C := rfl
theorem andA_D : Statement .andA_D := rfl
theorem andA_E : Statement .andA_E := rfl
theorem andA_H : Statement .andA_H := rfl
theorem andA_L : Statement .andA_L := rfl
theorem andA_atHL : Statement .andA_atHL := rfl
theorem andA_A : Statement .andA_A := rfl
theorem xorA_B : Statement .xorA_B := rfl
theorem xorA_C : Statement .xorA_C := rfl
theorem xorA_D : Statement .xorA_D := rfl
theorem xorA_E : Statement .xorA_E := rfl
theorem xorA_H : Statement .xorA_H := rfl
theorem xorA_L : Statement .xorA_L := rfl
theorem xorA_atHL : Statement .xorA_atHL := rfl
theorem xorA_A : Statement .xorA_A := rfl
theorem orA_B : Statement .orA_B := rfl
theorem orA_C : Statement .orA_C := rfl
theorem orA_D : Statement .orA_D := rfl
theorem orA_E : Statement .orA_E := rfl
theorem orA_H : Statement .orA_H := rfl
theorem orA_L : Statement .orA_L := rfl
theorem orA_atHL : Statement .orA_atHL := rfl
theorem orA_A : Statement .orA_A := rfl
theorem cpB : Statement .cpB := rfl
theorem cpC : Statement .cpC := rfl
theorem cpD : Statement .cpD := rfl
theorem cpE : Statement .cpE := rfl
theorem cpH : Statement .cpH := rfl
theorem cpL : Statement .cpL := rfl
theorem cpAtHL : Statement .cpAtHL := rfl
theorem cpA : Statement .cpA := rfl
theorem retNZ : Statement .retNZ := rfl
theorem popBC : Statement .popBC := rfl
theorem jpNZ_nn : Statement .jpNZ_nn := rfl
theorem jpNN : Statement .jpNN := rfl
theorem callNZ_nn : Statement .callNZ_nn := rfl
theorem pushBC : Statement .pushBC := rfl
theorem addA_n : Statement .addA_n := rfl
theorem rst00H : Statement .rst00H := rfl
theorem retZ : Statement .retZ := rfl
theorem ret : Statement .ret := rfl
theorem jpZ_nn : Statement .jpZ_nn := rfl
theorem cbPrefix : Statement .cbPrefix := rfl
theorem callZ_nn : Statement .callZ_nn := rfl
theorem callNN : Statement .callNN := rfl
theorem adcA_n : Statement .adcA_n := rfl
theorem rst08H : Statement .rst08H := rfl
theorem retNC : Statement .retNC := rfl
theorem popDE : Statement .popDE := rfl
theorem jpNC_nn : Statement .jpNC_nn := rfl
theorem noneD3 : Statement .noneD3 := rfl
theorem callNC_nn : Statement .callNC_nn := rfl
theorem pushDE : Statement .pushDE := rfl
theorem subA_n : Statement .subA_n := rfl
theorem rst10H : Statement .rst10H := rfl
theorem retC : Statement .retC := rfl
theorem reti : Statement .reti := rfl
theorem jpC_nn : Statement .jpC_nn := rfl
theorem noneDB : Statement .noneDB := rfl
theorem callC_nn : Statement .callC_nn := rfl
theorem noneDD : Statement .noneDD := rfl
theorem sbcA_n : Statement .sbcA_n := rfl
theorem rst18H : Statement .rst18H := rfl
theorem ldhAtN_A : Statement .ldhAtN_A := rfl
theorem popHL : Statement .popHL := rfl
theorem ldAtHighC_A : Statement .ldAtHighC_A := rfl
theorem noneE3 : Statement .noneE3 := rfl
theorem noneE4 : Statement .noneE4 := rfl
theorem pushHL : Statement .pushHL := rfl
theorem andA_n : Statement .andA_n := rfl
theorem rst20H : Statement .rst20H := rfl
theorem addSP_e : Statement .addSP_e := rfl
theorem jpAtHL : Statement .jpAtHL := rfl
theorem ldAtNN_A : Statement .ldAtNN_A := rfl
theorem noneEB : Statement .noneEB := rfl
theorem noneEC : Statement .noneEC := rfl
theorem noneED : Statement .noneED := rfl
theorem xorA_n : Statement .xorA_n := rfl
theorem rst28H : Statement .rst28H := rfl
theorem ldhA_atN : Statement .ldhA_atN := rfl
theorem popAF : Statement .popAF := rfl
theorem ldA_atHighC : Statement .ldA_atHighC := rfl
theorem di : Statement .di := rfl
theorem noneF4 : Statement .noneF4 := rfl
theorem pushAF : Statement .pushAF := rfl
theorem orA_n : Statement .orA_n := rfl
theorem rst30H : Statement .rst30H := rfl
theorem ldhlSP_n : Statement .ldhlSP_n := rfl
theorem ldSP_HL : Statement .ldSP_HL := rfl
theorem ldA_atNN : Statement .ldA_atNN := rfl
theorem ei : Statement .ei := rfl
theorem noneFC : Statement .noneFC := rfl
theorem noneFD : Statement .noneFD := rfl
theorem cpN : Statement .cpN := rfl
theorem rst38H : Statement .rst38H := rfl

end Sys2Proof.Laws.OpcodeRoundTrip
end

