-- ==== Sys2Proof/Laws/Run.lean ====
section
/-! SUPPORT. What the operation of every form does, said once: the fields no operation writes, the cost, the pc, F's low
nibble, memory's canonical form and the first bus event; and the single facts of the operations below them. -/

namespace Sys2Proof.Machine

/-! ### HL steps (R113) -/

/-- `hl_inc` as one record update. -/
theorem hlInc_eq (s : State) :
    hlInc s = { s with l := s.l + 1#8, h := if s.l + 1#8 = 0x00#8 then s.h + 1#8 else s.h } := by
  simp only [hlInc, writeReg_L, readReg_L, writeReg_H, readReg_H]
  split <;> simp [*]

/-- `hl_dec` as one record update. -/
theorem hlDec_eq (s : State) :
    hlDec s = { s with l := s.l - 1#8, h := if s.l - 1#8 = 0xFF#8 then s.h - 1#8 else s.h } := by
  simp only [hlDec, writeReg_L, readReg_L, writeReg_H, readReg_H]
  split <;> simp [*]

/-! ### Flags and nibbles -/

/-- The two spellings of F's byte (R25). -/
theorem flagByte_eq_packFlags (z n h c : Bool) : flagByte z n h c = packFlags z n h c := by
  cases z <;> cases n <;> cases h <;> cases c <;> rfl

/-- The C flag is bit 4 of F (R25). -/
theorem testFlag_C (s : State) : testFlag .C s = s.f.getLsbD 4 := by
  have bit : ∀ f : Byte, decide (f &&& 0x10#8 = 0x10#8) = f.getLsbD 4 := by decide
  exact bit s.f

/-- Bit 4 of a byte as a number. -/
theorem and_16_ne_zero (x : Byte) : x &&& 0x10#8 ≠ 0#8 ↔ x.toNat / 16 % 2 = 1 := by
  revert x
  decide

/-- The low nibble of a byte as a number. -/
theorem and_15_toNat (x : Byte) : (x &&& 0x0F#8).toNat = x.toNat % 16 := by
  rw [BitVec.toNat_and, BitVec.toNat_ofNat, show 15 % 2 ^ 8 = 2 ^ 4 - 1 from rfl, Nat.and_two_pow_sub_one_eq_mod]

/-! ### Fatal bytes (R232) -/

/-- Each listed byte's entry of the opcode table is fatal, with its kind and its own value. -/
theorem entry_of_fatalBytes {k : FaultKind} {op : Byte} (h : op ∈ fatalBytes k) :
    (decodeOpcode op).entry = .fatal k op := by
  cases k
  · revert op
    decide
  · revert op
    decide

/-! ### Every form's operation -/

/-- What no operation writes, and the cost it charges (R31, R218). -/
theorem runForm_keeps (f : Form) (s : State) :
    (runForm f s).stopped = s.stopped ∧ (runForm f s).cfg = s.cfg ∧ (runForm f s).clk = s.clk ∧
    (runForm f s).cost = s.cost ∧
    (runForm f s).last = counters s (f.mCycles s.cfg.pushCost) (4 * f.mCycles s.cfg.pushCost) := by
  rcases f with ⟨d, r⟩ | ⟨d⟩ | ⟨d⟩ | ⟨r⟩ | _ | _ | _ | _ | _ | _ | _ | _ | _ | _ | _ | _ | _ | _ | _ | ⟨p⟩ | _ | _ | _ |
    _ | ⟨p⟩ | ⟨p⟩ | _ | ⟨op, ⟨r⟩ | _ | _⟩ | _ | _ | _ | _
  case ldhAtNA => simp only [runForm, storeAHigh]; split <;> simp [counters, wrapCycles, Form.mCycles]
  case ldhAAtN => simp only [runForm, loadAHigh]; split <;> simp [counters, wrapCycles, Form.mCycles]
  case ldPairImm =>
    simp only [runForm, loadPairImm, writePairBytes]
    split <;> simp [counters, wrapCycles, Form.mCycles]
  case push =>
    simp only [runForm, pushPair, pushByte]
    cases h : s.cfg.pushCost <;> simp [counters, wrapCycles, Form.mCycles, pushCycles]
  all_goals
    simp [runForm, loadRegReg, loadRegImm, loadRegAt, storeRegAt, storeImmAtHL, loadAAbs, storeAAbs, storeAThen,
      loadAThen, loadSpImm, loadSpHL, storeSpAbs, loadHLSpImm, popPair, popByte, aluInstr, aluOperand, writeOpnd,
      writePair, counters, wrapCycles, Form.mCycles, hlInc_eq, hlDec_eq]

/-- The pc after an operation, which starts one byte past the opcode (R211, R218). -/
theorem runForm_pc (f : Form) (s : State) : (runForm f s).pc + 1#16 = s.pc + BitVec.ofNat 16 f.advance := by
  rcases f with ⟨d, r⟩ | ⟨d⟩ | ⟨d⟩ | ⟨r⟩ | _ | _ | _ | _ | _ | _ | _ | _ | _ | _ | _ | _ | _ | _ | _ | ⟨p⟩ | _ | _ | _ |
    _ | ⟨p⟩ | ⟨p⟩ | _ | ⟨op, ⟨r⟩ | _ | _⟩ | _ | _ | _ | _
  case ldhAtNA => simp only [runForm, storeAHigh]; split <;> simp [Form.advance] <;> bv_omega
  case ldhAAtN => simp only [runForm, loadAHigh]; split <;> simp [Form.advance] <;> bv_omega
  case ldPairImm => simp only [runForm, loadPairImm, writePairBytes]; split <;> simp [Form.advance] <;> bv_omega
  all_goals
    simp [runForm, pushPair, pushByte, loadRegReg, loadRegImm, loadRegAt, storeRegAt, storeImmAtHL, loadAAbs, storeAAbs,
      storeAThen, loadAThen, loadSpImm, loadSpHL, storeSpAbs, loadHLSpImm, popPair, popByte, aluInstr, aluOperand,
      writeOpnd, writePair, Form.advance, hlInc_eq, hlDec_eq] <;> bv_omega

/-- Every operation keeps F's low nibble at 0 (R26). -/
theorem runForm_fLow (f : Form) (s : State) (h : s.f &&& 0x0F#8 = 0#8) : (runForm f s).f &&& 0x0F#8 = 0#8 := by
  have w : ∀ r v (s : State), s.f &&& 0x0F#8 = 0#8 → (writeReg r v s).f &&& 0x0F#8 = 0#8 :=
    fun r v s h => writeReg_fLow h
  rcases f with ⟨d, r⟩ | ⟨d⟩ | ⟨d⟩ | ⟨r⟩ | _ | _ | _ | _ | _ | _ | _ | _ | _ | _ | _ | _ | _ | _ | _ | ⟨p⟩ | _ | _ | _ |
    _ | ⟨p⟩ | ⟨p⟩ | _ | ⟨op, ⟨r⟩ | _ | _⟩ | _ | _ | _ | _
  case ldhAtNA => simp only [runForm, storeAHigh]; split <;> simpa
  case ldhAAtN => simp only [runForm, loadAHigh]; split <;> simp [h, w]
  case ldPairImm => simp only [runForm, loadPairImm, writePairBytes]; split <;> simp [h, w]
  all_goals
    simp [runForm, pushPair, pushByte, loadRegReg, loadRegImm, loadRegAt, storeRegAt, storeImmAtHL, loadAAbs, storeAAbs,
      storeAThen, loadAThen, loadSpImm, loadSpHL, storeSpAbs, loadHLSpImm, popPair, popByte, aluInstr, aluOperand,
      writeOpnd, writePair, hlInc_eq, hlDec_eq, h, w]

/-- Every operation keeps memory's canonical form (log 3). -/
theorem runForm_memWf (f : Form) (s : State) (h : Memory.wf s.mem) : Memory.wf (runForm f s).mem := by
  have w := @Memory.write_word_wf
  rcases f with ⟨d, r⟩ | ⟨d⟩ | ⟨d⟩ | ⟨r⟩ | _ | _ | _ | _ | _ | _ | _ | _ | _ | _ | _ | _ | _ | _ | _ | ⟨p⟩ | _ | _ | _ |
    _ | ⟨p⟩ | ⟨p⟩ | _ | ⟨op, ⟨r⟩ | _ | _⟩ | _ | _ | _ | _
  case ldhAtNA => simp only [runForm, storeAHigh]; split <;> exact w _ _ h
  case ldhAAtN => simp only [runForm, loadAHigh]; split <;> simpa
  case ldPairImm => simp only [runForm, loadPairImm, writePairBytes]; split <;> simpa
  case push => exact w _ _ (w _ _ h)
  case ldAbsSp => exact w _ _ (w _ _ h)
  case ldAtHLReg => exact w _ _ h
  case ldAtHLImm => exact w _ _ h
  case ldAtBCA => exact w _ _ h
  case ldAtDEA => exact w _ _ h
  case ldAbsA => exact w _ _ h
  case ldHighCA => exact w _ _ h
  case ldiAtHLA => simp only [runForm, storeAThen, charge_mem, hlInc_eq]; exact w _ _ h
  case lddAtHLA => simp only [runForm, storeAThen, charge_mem, hlDec_eq]; exact w _ _ h
  all_goals
    simpa [runForm, loadRegReg, loadRegImm, loadRegAt, loadAAbs, loadAThen, loadSpImm, loadSpHL, loadHLSpImm, popPair,
      popByte, aluInstr, aluOperand, writeOpnd, writePair, hlInc_eq, hlDec_eq] using h

/-- An operation only adds bus events, so the first one stays the opcode read (R210, R211). -/
theorem runForm_events_head (f : Form) (s : State) (ev : BusEvent) (h : s.events.head? = some ev) :
    (runForm f s).events.head? = some ev := by
  rcases f with ⟨d, r⟩ | ⟨d⟩ | ⟨d⟩ | ⟨r⟩ | _ | _ | _ | _ | _ | _ | _ | _ | _ | _ | _ | _ | _ | _ | _ | ⟨p⟩ | _ | _ | _ |
    _ | ⟨p⟩ | ⟨p⟩ | _ | ⟨op, ⟨r⟩ | _ | _⟩ | _ | _ | _ | _
  case ldhAtNA => simp only [runForm, storeAHigh]; split <;> simp [h]
  case ldhAAtN => simp only [runForm, loadAHigh]; split <;> simp [h]
  case ldPairImm => simp only [runForm, loadPairImm, writePairBytes]; split <;> simp [h]
  all_goals
    simp [runForm, pushPair, pushByte, loadRegReg, loadRegImm, loadRegAt, storeRegAt, storeImmAtHL, loadAAbs, storeAAbs,
      storeAThen, loadAThen, loadSpImm, loadSpHL, storeSpAbs, loadHLSpImm, popPair, popByte, aluInstr, aluOperand,
      writeOpnd, writePair, hlInc_eq, hlDec_eq, h]

end Sys2Proof.Machine
end

