-- ==== Sys2Proof/Tests/Slice0.lean ====
section
/-! SUPPORT. The model's own tests: well-formedness, decoding of words written out from the spec's encodings, the test
vectors of spec/95_test_vectors.md (each named by its id there, whose expected values it takes), the two functions the
host calls, and a witness for the hypotheses of every statement that has hypotheses. -/

namespace Sys2Proof.Tests

open Sys2Proof Sys2Proof.Machine

/-! ### Helpers -/

/-- A state with bytes in memory from an address on and pc at that address. -/
def loadAt (pc : Word) (bytes : List Byte) (s : State) : State :=
  { s with pc := pc, mem := placeBytes pc bytes s.mem }

/-- What one step leaves, where it answers a next state. -/
def after {α : Type} (s : State) (see : State → α) : Option α :=
  match step s with
  | .next t => some (see t)
  | .fault _ => none
  | .refused _ => none

/-- The mark of a fatal step and what it leaves. -/
def afterFault {α : Type} (s : State) (see : State → α) : Option (FatalMark × α) :=
  match step s with
  | .next _ => none
  | .fault (.fatal mark left) => some (mark, see left)
  | .refused _ => none

/-- The vectors' start state: everything zero. -/
def zero : State := State.reset

/-! ### Well-formed instructions (R70) -/

/-- OP carries no immediate: one byte too many is refused. -/
theorem test_wf_op_refuses_an_immediate : Code.wf ⟨.ldB_C, [0x00#8]⟩ = false := by decide
/-- OP_N without its byte is refused. -/
theorem test_wf_op_n_refuses_no_byte : Code.wf ⟨.ldB_n, []⟩ = false := by decide
/-- OP_N with two bytes is refused. -/
theorem test_wf_op_n_refuses_two_bytes : Code.wf ⟨.ldhAtN_A, [0x00#8, 0x01#8]⟩ = false := by decide
/-- OP_NN with one byte is refused. -/
theorem test_wf_op_nn_refuses_one_byte : Code.wf ⟨.ldAtNN_SP, [0x00#8]⟩ = false := by decide
/-- A fatal opcode is one byte (R78): an operand byte is refused, 0xCB's too (R77). -/
theorem test_wf_fatal_refuses_a_byte : Code.wf ⟨.cbPrefix, [0x37#8]⟩ = false := by decide
/-- One of each format is accepted. -/
theorem test_wf_accepts_each_format :
    (Code.wf ⟨.ldB_C, []⟩ && Code.wf ⟨.ldB_n, [0xFF#8]⟩ && Code.wf ⟨.ldAtNN_SP, [0x00#8, 0xC0#8]⟩ &&
      Code.wf ⟨.cbPrefix, []⟩) = true := by decide
/-- `P_CLK_BITS` is positive (R6): zero is refused. -/
theorem test_cfg_wf_refuses_no_bits : Config.wf { clkBits := 0 } = false := by decide

/-! ### Decoding (R70 to R78) -/

/-- No byte, and an immediate cut off, are refused by name. -/
theorem test_decode_refusals :
    decode [] = .refused .noByte ∧ decode [0x3E#8] = .refused (.truncated .ldA_n) ∧
    decode [0x31#8, 0x34#8] = .refused (.truncated .ldSP_nn) := by decide
/-- An instruction takes its immediates and leaves the rest (R78); 0xCB takes no second byte (R77). -/
theorem test_decode_takes_its_immediates :
    decode [0x31#8, 0x34#8, 0x12#8, 0x76#8] = .ok ⟨.ldSP_nn, [0x34#8, 0x12#8]⟩ [0x76#8] ∧
    decode [0xCB#8, 0x37#8] = .ok ⟨.cbPrefix, []⟩ [0x37#8] := by decide
/-- The seven opcode bytes the source document itself gives (30_encoding.md, its opening). -/
theorem test_decode_source_bytes :
    decodeOpcode 0b00111110#8 = .ldA_n ∧ decodeOpcode 0b01111000#8 = .ldA_B ∧ decodeOpcode 0b10000000#8 = .addA_B ∧
    decodeOpcode 0b10010111#8 = .subA_A ∧ decodeOpcode 0b11100110#8 = .andA_n ∧
    decodeOpcode 0b11000101#8 = .pushBC ∧ decodeOpcode 0b11010001#8 = .popDE := by decide
/-- Forms print as the map's cells (R75, R79). -/
theorem test_form_text :
    (Form.ldRegReg .A .B).text = "LD A,B" ∧ Form.ldAbsSp.text = "LD (nn),SP" ∧
    (Form.alu .xor .atHL).text = "XOR A,(HL)" ∧ (Form.push .AF).text = "PUSH AF" := by decide

/-! #### Every row of the opcode table -/

/-- Rows 0x00 to 0x0F of spec/opcode_table.json: the words from the table's encodings (R73, R232). -/
theorem test_decode_row0 : ([(0b00000000#8, Instr.nop), (0b00000001#8, Instr.ldBC_nn),
    (0b00000010#8, Instr.ldAtBC_A), (0b00000011#8, Instr.incBC),
    (0b00000100#8, Instr.incB), (0b00000101#8, Instr.decB),
    (0b00000110#8, Instr.ldB_n), (0b00000111#8, Instr.rlca),
    (0b00001000#8, Instr.ldAtNN_SP), (0b00001001#8, Instr.addHL_BC),
    (0b00001010#8, Instr.ldA_atBC), (0b00001011#8, Instr.decBC),
    (0b00001100#8, Instr.incC), (0b00001101#8, Instr.decC),
    (0b00001110#8, Instr.ldC_n), (0b00001111#8, Instr.rrca)]).all
      (fun x => decodeOpcode x.1 == x.2 && opcodeOf x.2 == x.1) = true := by decide

/-- Rows 0x10 to 0x1F of spec/opcode_table.json: the words from the table's encodings (R73, R232). -/
theorem test_decode_row1 : ([(0b00010000#8, Instr.stop), (0b00010001#8, Instr.ldDE_nn),
    (0b00010010#8, Instr.ldAtDE_A), (0b00010011#8, Instr.incDE),
    (0b00010100#8, Instr.incD), (0b00010101#8, Instr.decD),
    (0b00010110#8, Instr.ldD_n), (0b00010111#8, Instr.rla),
    (0b00011000#8, Instr.jrE), (0b00011001#8, Instr.addHL_DE),
    (0b00011010#8, Instr.ldA_atDE), (0b00011011#8, Instr.decDE),
    (0b00011100#8, Instr.incE), (0b00011101#8, Instr.decE),
    (0b00011110#8, Instr.ldE_n), (0b00011111#8, Instr.rra)]).all
      (fun x => decodeOpcode x.1 == x.2 && opcodeOf x.2 == x.1) = true := by decide

/-- Rows 0x20 to 0x2F of spec/opcode_table.json: the words from the table's encodings (R73, R232). -/
theorem test_decode_row2 : ([(0b00100000#8, Instr.jrNZ_e), (0b00100001#8, Instr.ldHL_nn),
    (0b00100010#8, Instr.ldiAtHL_A), (0b00100011#8, Instr.incHL),
    (0b00100100#8, Instr.incH), (0b00100101#8, Instr.decH),
    (0b00100110#8, Instr.ldH_n), (0b00100111#8, Instr.daa),
    (0b00101000#8, Instr.jrZ_e), (0b00101001#8, Instr.addHL_HL),
    (0b00101010#8, Instr.ldiA_atHL), (0b00101011#8, Instr.decHL),
    (0b00101100#8, Instr.incL), (0b00101101#8, Instr.decL),
    (0b00101110#8, Instr.ldL_n), (0b00101111#8, Instr.cpl)]).all
      (fun x => decodeOpcode x.1 == x.2 && opcodeOf x.2 == x.1) = true := by decide

/-- Rows 0x30 to 0x3F of spec/opcode_table.json: the words from the table's encodings (R73, R232). -/
theorem test_decode_row3 : ([(0b00110000#8, Instr.jrNC_e), (0b00110001#8, Instr.ldSP_nn),
    (0b00110010#8, Instr.lddAtHL_A), (0b00110011#8, Instr.incSP),
    (0b00110100#8, Instr.incAtHL), (0b00110101#8, Instr.decAtHL),
    (0b00110110#8, Instr.ldAtHL_n), (0b00110111#8, Instr.scf),
    (0b00111000#8, Instr.jrC_e), (0b00111001#8, Instr.addHL_SP),
    (0b00111010#8, Instr.lddA_atHL), (0b00111011#8, Instr.decSP),
    (0b00111100#8, Instr.incA), (0b00111101#8, Instr.decA),
    (0b00111110#8, Instr.ldA_n), (0b00111111#8, Instr.ccf)]).all
      (fun x => decodeOpcode x.1 == x.2 && opcodeOf x.2 == x.1) = true := by decide

/-- Rows 0x40 to 0x4F of spec/opcode_table.json: the words from the table's encodings (R73, R232). -/
theorem test_decode_row4 : ([(0b01000000#8, Instr.ldB_B), (0b01000001#8, Instr.ldB_C),
    (0b01000010#8, Instr.ldB_D), (0b01000011#8, Instr.ldB_E),
    (0b01000100#8, Instr.ldB_H), (0b01000101#8, Instr.ldB_L),
    (0b01000110#8, Instr.ldB_atHL), (0b01000111#8, Instr.ldB_A),
    (0b01001000#8, Instr.ldC_B), (0b01001001#8, Instr.ldC_C),
    (0b01001010#8, Instr.ldC_D), (0b01001011#8, Instr.ldC_E),
    (0b01001100#8, Instr.ldC_H), (0b01001101#8, Instr.ldC_L),
    (0b01001110#8, Instr.ldC_atHL), (0b01001111#8, Instr.ldC_A)]).all
      (fun x => decodeOpcode x.1 == x.2 && opcodeOf x.2 == x.1) = true := by decide

/-- Rows 0x50 to 0x5F of spec/opcode_table.json: the words from the table's encodings (R73, R232). -/
theorem test_decode_row5 : ([(0b01010000#8, Instr.ldD_B), (0b01010001#8, Instr.ldD_C),
    (0b01010010#8, Instr.ldD_D), (0b01010011#8, Instr.ldD_E),
    (0b01010100#8, Instr.ldD_H), (0b01010101#8, Instr.ldD_L),
    (0b01010110#8, Instr.ldD_atHL), (0b01010111#8, Instr.ldD_A),
    (0b01011000#8, Instr.ldE_B), (0b01011001#8, Instr.ldE_C),
    (0b01011010#8, Instr.ldE_D), (0b01011011#8, Instr.ldE_E),
    (0b01011100#8, Instr.ldE_H), (0b01011101#8, Instr.ldE_L),
    (0b01011110#8, Instr.ldE_atHL), (0b01011111#8, Instr.ldE_A)]).all
      (fun x => decodeOpcode x.1 == x.2 && opcodeOf x.2 == x.1) = true := by decide

/-- Rows 0x60 to 0x6F of spec/opcode_table.json: the words from the table's encodings (R73, R232). -/
theorem test_decode_row6 : ([(0b01100000#8, Instr.ldH_B), (0b01100001#8, Instr.ldH_C),
    (0b01100010#8, Instr.ldH_D), (0b01100011#8, Instr.ldH_E),
    (0b01100100#8, Instr.ldH_H), (0b01100101#8, Instr.ldH_L),
    (0b01100110#8, Instr.ldH_atHL), (0b01100111#8, Instr.ldH_A),
    (0b01101000#8, Instr.ldL_B), (0b01101001#8, Instr.ldL_C),
    (0b01101010#8, Instr.ldL_D), (0b01101011#8, Instr.ldL_E),
    (0b01101100#8, Instr.ldL_H), (0b01101101#8, Instr.ldL_L),
    (0b01101110#8, Instr.ldL_atHL), (0b01101111#8, Instr.ldL_A)]).all
      (fun x => decodeOpcode x.1 == x.2 && opcodeOf x.2 == x.1) = true := by decide

/-- Rows 0x70 to 0x7F of spec/opcode_table.json: the words from the table's encodings (R73, R232). -/
theorem test_decode_row7 : ([(0b01110000#8, Instr.ldAtHL_B), (0b01110001#8, Instr.ldAtHL_C),
    (0b01110010#8, Instr.ldAtHL_D), (0b01110011#8, Instr.ldAtHL_E),
    (0b01110100#8, Instr.ldAtHL_H), (0b01110101#8, Instr.ldAtHL_L),
    (0b01110110#8, Instr.halt), (0b01110111#8, Instr.ldAtHL_A),
    (0b01111000#8, Instr.ldA_B), (0b01111001#8, Instr.ldA_C),
    (0b01111010#8, Instr.ldA_D), (0b01111011#8, Instr.ldA_E),
    (0b01111100#8, Instr.ldA_H), (0b01111101#8, Instr.ldA_L),
    (0b01111110#8, Instr.ldA_atHL), (0b01111111#8, Instr.ldA_A)]).all
      (fun x => decodeOpcode x.1 == x.2 && opcodeOf x.2 == x.1) = true := by decide

/-- Rows 0x80 to 0x8F of spec/opcode_table.json: the words from the table's encodings (R73, R232). -/
theorem test_decode_row8 : ([(0b10000000#8, Instr.addA_B), (0b10000001#8, Instr.addA_C),
    (0b10000010#8, Instr.addA_D), (0b10000011#8, Instr.addA_E),
    (0b10000100#8, Instr.addA_H), (0b10000101#8, Instr.addA_L),
    (0b10000110#8, Instr.addA_atHL), (0b10000111#8, Instr.addA_A),
    (0b10001000#8, Instr.adcA_B), (0b10001001#8, Instr.adcA_C),
    (0b10001010#8, Instr.adcA_D), (0b10001011#8, Instr.adcA_E),
    (0b10001100#8, Instr.adcA_H), (0b10001101#8, Instr.adcA_L),
    (0b10001110#8, Instr.adcA_atHL), (0b10001111#8, Instr.adcA_A)]).all
      (fun x => decodeOpcode x.1 == x.2 && opcodeOf x.2 == x.1) = true := by decide

/-- Rows 0x90 to 0x9F of spec/opcode_table.json: the words from the table's encodings (R73, R232). -/
theorem test_decode_row9 : ([(0b10010000#8, Instr.subA_B), (0b10010001#8, Instr.subA_C),
    (0b10010010#8, Instr.subA_D), (0b10010011#8, Instr.subA_E),
    (0b10010100#8, Instr.subA_H), (0b10010101#8, Instr.subA_L),
    (0b10010110#8, Instr.subA_atHL), (0b10010111#8, Instr.subA_A),
    (0b10011000#8, Instr.sbcA_B), (0b10011001#8, Instr.sbcA_C),
    (0b10011010#8, Instr.sbcA_D), (0b10011011#8, Instr.sbcA_E),
    (0b10011100#8, Instr.sbcA_H), (0b10011101#8, Instr.sbcA_L),
    (0b10011110#8, Instr.sbcA_atHL), (0b10011111#8, Instr.sbcA_A)]).all
      (fun x => decodeOpcode x.1 == x.2 && opcodeOf x.2 == x.1) = true := by decide

/-- Rows 0xA0 to 0xAF of spec/opcode_table.json: the words from the table's encodings (R73, R232). -/
theorem test_decode_rowA : ([(0b10100000#8, Instr.andA_B), (0b10100001#8, Instr.andA_C),
    (0b10100010#8, Instr.andA_D), (0b10100011#8, Instr.andA_E),
    (0b10100100#8, Instr.andA_H), (0b10100101#8, Instr.andA_L),
    (0b10100110#8, Instr.andA_atHL), (0b10100111#8, Instr.andA_A),
    (0b10101000#8, Instr.xorA_B), (0b10101001#8, Instr.xorA_C),
    (0b10101010#8, Instr.xorA_D), (0b10101011#8, Instr.xorA_E),
    (0b10101100#8, Instr.xorA_H), (0b10101101#8, Instr.xorA_L),
    (0b10101110#8, Instr.xorA_atHL), (0b10101111#8, Instr.xorA_A)]).all
      (fun x => decodeOpcode x.1 == x.2 && opcodeOf x.2 == x.1) = true := by decide

/-- Rows 0xB0 to 0xBF of spec/opcode_table.json: the words from the table's encodings (R73, R232). -/
theorem test_decode_rowB : ([(0b10110000#8, Instr.orA_B), (0b10110001#8, Instr.orA_C),
    (0b10110010#8, Instr.orA_D), (0b10110011#8, Instr.orA_E),
    (0b10110100#8, Instr.orA_H), (0b10110101#8, Instr.orA_L),
    (0b10110110#8, Instr.orA_atHL), (0b10110111#8, Instr.orA_A),
    (0b10111000#8, Instr.cpB), (0b10111001#8, Instr.cpC),
    (0b10111010#8, Instr.cpD), (0b10111011#8, Instr.cpE),
    (0b10111100#8, Instr.cpH), (0b10111101#8, Instr.cpL),
    (0b10111110#8, Instr.cpAtHL), (0b10111111#8, Instr.cpA)]).all
      (fun x => decodeOpcode x.1 == x.2 && opcodeOf x.2 == x.1) = true := by decide

/-- Rows 0xC0 to 0xCF of spec/opcode_table.json: the words from the table's encodings (R73, R232). -/
theorem test_decode_rowC : ([(0b11000000#8, Instr.retNZ), (0b11000001#8, Instr.popBC),
    (0b11000010#8, Instr.jpNZ_nn), (0b11000011#8, Instr.jpNN),
    (0b11000100#8, Instr.callNZ_nn), (0b11000101#8, Instr.pushBC),
    (0b11000110#8, Instr.addA_n), (0b11000111#8, Instr.rst00H),
    (0b11001000#8, Instr.retZ), (0b11001001#8, Instr.ret),
    (0b11001010#8, Instr.jpZ_nn), (0b11001011#8, Instr.cbPrefix),
    (0b11001100#8, Instr.callZ_nn), (0b11001101#8, Instr.callNN),
    (0b11001110#8, Instr.adcA_n), (0b11001111#8, Instr.rst08H)]).all
      (fun x => decodeOpcode x.1 == x.2 && opcodeOf x.2 == x.1) = true := by decide

/-- Rows 0xD0 to 0xDF of spec/opcode_table.json: the words from the table's encodings (R73, R232). -/
theorem test_decode_rowD : ([(0b11010000#8, Instr.retNC), (0b11010001#8, Instr.popDE),
    (0b11010010#8, Instr.jpNC_nn), (0b11010011#8, Instr.noneD3),
    (0b11010100#8, Instr.callNC_nn), (0b11010101#8, Instr.pushDE),
    (0b11010110#8, Instr.subA_n), (0b11010111#8, Instr.rst10H),
    (0b11011000#8, Instr.retC), (0b11011001#8, Instr.reti),
    (0b11011010#8, Instr.jpC_nn), (0b11011011#8, Instr.noneDB),
    (0b11011100#8, Instr.callC_nn), (0b11011101#8, Instr.noneDD),
    (0b11011110#8, Instr.sbcA_n), (0b11011111#8, Instr.rst18H)]).all
      (fun x => decodeOpcode x.1 == x.2 && opcodeOf x.2 == x.1) = true := by decide

/-- Rows 0xE0 to 0xEF of spec/opcode_table.json: the words from the table's encodings (R73, R232). -/
theorem test_decode_rowE : ([(0b11100000#8, Instr.ldhAtN_A), (0b11100001#8, Instr.popHL),
    (0b11100010#8, Instr.ldAtHighC_A), (0b11100011#8, Instr.noneE3),
    (0b11100100#8, Instr.noneE4), (0b11100101#8, Instr.pushHL),
    (0b11100110#8, Instr.andA_n), (0b11100111#8, Instr.rst20H),
    (0b11101000#8, Instr.addSP_e), (0b11101001#8, Instr.jpAtHL),
    (0b11101010#8, Instr.ldAtNN_A), (0b11101011#8, Instr.noneEB),
    (0b11101100#8, Instr.noneEC), (0b11101101#8, Instr.noneED),
    (0b11101110#8, Instr.xorA_n), (0b11101111#8, Instr.rst28H)]).all
      (fun x => decodeOpcode x.1 == x.2 && opcodeOf x.2 == x.1) = true := by decide

/-- Rows 0xF0 to 0xFF of spec/opcode_table.json: the words from the table's encodings (R73, R232). -/
theorem test_decode_rowF : ([(0b11110000#8, Instr.ldhA_atN), (0b11110001#8, Instr.popAF),
    (0b11110010#8, Instr.ldA_atHighC), (0b11110011#8, Instr.di),
    (0b11110100#8, Instr.noneF4), (0b11110101#8, Instr.pushAF),
    (0b11110110#8, Instr.orA_n), (0b11110111#8, Instr.rst30H),
    (0b11111000#8, Instr.ldhlSP_n), (0b11111001#8, Instr.ldSP_HL),
    (0b11111010#8, Instr.ldA_atNN), (0b11111011#8, Instr.ei),
    (0b11111100#8, Instr.noneFC), (0b11111101#8, Instr.noneFD),
    (0b11111110#8, Instr.cpN), (0b11111111#8, Instr.rst38H)]).all
      (fun x => decodeOpcode x.1 == x.2 && opcodeOf x.2 == x.1) = true := by decide

/-! ### The two functions the host calls -/

/-- The table's words are numbered from the first byte up; the bytes above nbits are zero. -/
theorem test_decodeTableWord :
    decodeTableWord 8 0x41 = some .ldB_C ∧ decodeTableWord 16 0x423E = some .ldA_n ∧
    decodeTableWord 24 0x1234FA = some .ldA_atNN ∧ decodeTableWord 8 0x31 = some .ldSP_nn ∧
    decodeTableWord 8 0xD3 = some .noneD3 := by decide
/-- V1's word, run as the first instruction after reset. -/
theorem test_withFetchWord_runs_it :
    after (State.reset.withFetchWord 16 0x423E) (fun t => (t.a, t.pc)) = some (0x42#8, 0x0002#16) := by decide
/-- A word of three bytes, and one whose bytes the table does not give (read as zero). -/
theorem test_withFetchWord_three_bytes :
    after (State.reset.withFetchWord 24 0x123431) (fun t => t.sp) = some 0x1234#16 ∧
    after (State.reset.withFetchWord 8 0x31) (fun t => (t.sp, t.pc)) = some (0x0000#16, 0x0003#16) := by decide
/-- It runs also from a stopped CPU on another bus. -/
theorem test_withFetchWord_restarts :
    after ({ State.reset with stopped := some ⟨.unknown, 0xD3#8, 0#16⟩, cfg := { bus := .free } }.withFetchWord 8 0x00)
      (fun t => t.pc) = some 0x0001#16 := by decide

/-! ### Vectors: 8-bit loads (R100 to R119) -/

/-- V1. -/
theorem test_V1_ld_a_n :
    after (loadAt 0x0000#16 [0x3E#8, 0x42#8] zero)
      (fun t => (t.a, t.pc, t.clk)) =
      some (0x42#8, 0x0002#16, ⟨2, 8⟩) := by decide

/-- V2. -/
theorem test_V2_ld_a_b :
    after (loadAt 0x0000#16 [0x78#8] { zero with b := 0x7F#8 })
      (fun t => (t.a, t.b, t.cost)) =
      some (0x7F#8, 0x7F#8, some ⟨1, 4⟩) := by decide

/-- L8-1. -/
theorem test_L8_1_ld_b_c :
    after (loadAt 0x0000#16 [0x41#8] { zero with c := 0x5A#8 })
      (fun t => (t.b, t.pc)) =
      some (0x5A#8, 0x0001#16) := by decide

/-- L8-2. -/
theorem test_L8_2_ld_a_a :
    after (loadAt 0x0000#16 [0x7F#8] { zero with a := 0x33#8, f := 0xF0#8 })
      (fun t => (t.a, t.f)) =
      some (0x33#8, 0xF0#8) := by decide

/-- L8-3. -/
theorem test_L8_3_ld_b_n :
    after (loadAt 0x0000#16 [0x06#8, 0x99#8] zero)
      (fun t => (t.b, t.events)) =
      some (0x99#8, [.read1 0x0000#16 0x06#8, .read1 0x0001#16 0x99#8]) := by decide

/-- L8-4. -/
theorem test_L8_4_ld_h_at_hl :
    after (loadAt 0x0000#16 [0x66#8] { zero with h := 0xC0#8, l := 0x12#8, mem := [(0xC012, 0x77#8)] })
      (fun t => (t.h, t.l)) =
      some (0x77#8, 0x12#8) := by decide

/-- L8-5. -/
theorem test_L8_5_ld_at_hl_h :
    after (loadAt 0x0000#16 [0x74#8] { zero with h := 0xC0#8, l := 0x12#8 })
      (fun t => (ramByte t 0xC012#16, t.cost)) =
      some (0xC0#8, some ⟨2, 8⟩) := by decide

/-- L8-6. -/
theorem test_L8_6_ld_at_hl_n :
    after (loadAt 0x0000#16 [0x36#8, 0x5A#8] { zero with h := 0xC0#8 })
      (fun t => (ramByte t 0xC000#16, t.cost)) =
      some (0x5A#8, some ⟨3, 12⟩) := by decide

/-- L8-7. -/
theorem test_L8_7_ld_a_at_bc :
    after (loadAt 0x0000#16 [0x0A#8] { zero with b := 0xC1#8, mem := [(0xC100, 0x21#8)] })
      (fun t => (t.a, t.cost)) =
      some (0x21#8, some ⟨2, 8⟩) := by decide

/-- L8-8. -/
theorem test_L8_8_ld_a_at_de :
    after (loadAt 0x0000#16 [0x1A#8] { zero with d := 0xC2#8, mem := [(0xC200, 0x22#8)] })
      (fun t => (t.a, t.cost)) =
      some (0x22#8, some ⟨2, 8⟩) := by decide

/-- L8-9. -/
theorem test_L8_9_ld_at_bc_a :
    after (loadAt 0x0000#16 [0x02#8] { zero with b := 0xC1#8, c := 0x05#8, a := 0x9C#8 })
      (fun t => (ramByte t 0xC105#16, t.cost)) =
      some (0x9C#8, some ⟨2, 8⟩) := by decide

/-- L8-10. -/
theorem test_L8_10_ld_at_de_a :
    after (loadAt 0x0000#16 [0x12#8] { zero with d := 0xC2#8, e := 0x06#8, a := 0x9D#8 })
      (fun t => (ramByte t 0xC206#16, t.cost)) =
      some (0x9D#8, some ⟨2, 8⟩) := by decide

/-- L8-11. -/
theorem test_L8_11_ld_a_at_nn :
    after (loadAt 0x0000#16 [0xFA#8, 0x34#8, 0x12#8] { zero with mem := [(0x1234, 0xAB#8)] })
      (fun t => (t.a, t.pc, t.events)) =
      some (0xAB#8, 0x0003#16,
      [.read1 0x0000#16 0xFA#8, .read2 0x0001#16 0x1234#16, .read1 0x1234#16 0xAB#8]) := by decide

/-- L8-12. -/
theorem test_L8_12_ld_at_nn_a :
    after (loadAt 0x0000#16 [0xEA#8, 0x00#8, 0xC0#8] { zero with a := 0x5E#8 })
      (fun t => (ramByte t 0xC000#16, t.pc, t.cost)) =
      some (0x5E#8, 0x0003#16, some ⟨4, 16⟩) := by decide

/-- L8-13. -/
theorem test_L8_13_ld_a_high_c :
    after (loadAt 0x0000#16 [0xF2#8] { zero with c := 0x80#8, mem := [(0xFF80, 0x12#8)] })
      (fun t => (t.a, t.cost)) =
      some (0x12#8, some ⟨2, 8⟩) := by decide

/-- L8-14. -/
theorem test_L8_14_ld_high_c_a :
    after (loadAt 0x0000#16 [0xE2#8] { zero with c := 0xFF#8, a := 0x01#8 })
      (fun t => (ramByte t 0xFFFF#16, t.cost)) =
      some (0x01#8, some ⟨2, 8⟩) := by decide

/-- L8-15. -/
theorem test_L8_15_ldi_at_hl_a :
    after (loadAt 0x0000#16 [0x22#8] { zero with h := 0xFF#8, l := 0xFF#8, a := 0x11#8 })
      (fun t => (ramByte t 0xFFFF#16, t.h, t.l)) =
      some (0x11#8, 0x00#8, 0x00#8) := by decide

/-- L8-16. -/
theorem test_L8_16_ldi_a_at_hl :
    after (loadAt 0x0000#16 [0x2A#8] { zero with h := 0xC0#8, l := 0xFF#8, mem := [(0xC0FF, 0x44#8)] })
      (fun t => (t.a, t.h, t.l)) =
      some (0x44#8, 0xC1#8, 0x00#8) := by decide

/-- L8-17. -/
theorem test_L8_17_ldd_at_hl_a :
    after (loadAt 0x0100#16 [0x32#8] { zero with a := 0x66#8 })
      (fun t => (ramByte t 0x0000#16, t.h, t.l)) =
      some (0x66#8, 0xFF#8, 0xFF#8) := by decide

/-- L8-18. -/
theorem test_L8_18_ldd_a_at_hl :
    after (loadAt 0x0000#16 [0x3A#8] { zero with h := 0x12#8, mem := [(0x1200, 0x55#8)] })
      (fun t => (t.a, t.h, t.l)) =
      some (0x55#8, 0x11#8, 0xFF#8) := by decide

/-- L8-19, `P_LDH_EA = IMM_OFFSET`. -/
theorem test_L8_19_ldh_n_a_imm_offset :
    after (loadAt 0x0010#16 [0xE0#8, 0x80#8] { zero with a := 0xAA#8, cfg := { ldhEa := .immOffset } })
      (fun t => (ramByte t 0xFF80#16, t.events)) =
      some (0xAA#8,
      [.read1 0x0010#16 0xE0#8, .read1 0x0011#16 0x80#8, .write1 0xFF80#16 0xAA#8]) := by decide

/-- L8-21, `P_LDH_EA = PC_PAGE`: the address wraps. -/
theorem test_L8_21_ldh_n_a_pc_page :
    after (loadAt 0x00FF#16 [0xE0#8, 0x80#8] { zero with a := 0xAA#8 })
      (fun t => (ramByte t 0x0000#16, t.pc)) =
      some (0xAA#8, 0x0101#16) := by decide

/-- L8-20, `P_LDH_EA = PC_PAGE`. -/
theorem test_L8_20_ldh_a_n_pc_page :
    after (loadAt 0x0020#16 [0xF0#8, 0x44#8] { zero with mem := [(0xFF21, 0x01#8), (0xFF44, 0x90#8)] })
      (fun t => (t.a, t.events)) =
      some (0x01#8,
      [.read1 0x0020#16 0xF0#8, .read1 0xFF21#16 0x01#8]) := by decide

/-- L8-20, `P_LDH_EA = IMM_OFFSET`. -/
theorem test_L8_20_ldh_a_n_imm_offset :
    after (loadAt 0x0020#16 [0xF0#8, 0x44#8] { zero with mem := [(0xFF21, 0x01#8), (0xFF44, 0x90#8)], cfg := { ldhEa := .immOffset } })
      (fun t => (t.a, t.pc)) =
      some (0x90#8, 0x0022#16) := by decide

/-- L8-23: the opcode byte read a second time as data. -/
theorem test_L8_23_ld_a_at_hl_itself :
    after (loadAt 0x0100#16 [0x7E#8] { zero with h := 0x01#8 })
      (fun t => t.a) =
      some 0x7E#8 := by decide

/-- L8-24: the immediate at 0x0000. -/
theorem test_L8_24_ld_a_n_wraps :
    after (loadAt 0xFFFF#16 [0x3E#8] { zero with mem := [(0x0000, 0x42#8)] })
      (fun t => (t.a, t.pc)) =
      some (0x42#8, 0x0001#16) := by decide

/-! ### Vectors: 16-bit loads (R130 to R134) -/

/-- L16-1, `P_LDRR_ORDER = HIGH_FIRST`. -/
theorem test_L16_1_ld_bc_nn_high_first :
    after (loadAt 0x0000#16 [0x01#8, 0x34#8, 0x12#8] zero)
      (fun t => (t.b, t.c, t.cost)) =
      some (0x34#8, 0x12#8, some ⟨3, 12⟩) := by decide

/-- L16-1, `P_LDRR_ORDER = LOW_FIRST`. -/
theorem test_L16_1_ld_bc_nn_low_first :
    after (loadAt 0x0000#16 [0x01#8, 0x34#8, 0x12#8] { zero with cfg := { ldrrOrder := .lowFirst } })
      (fun t => (t.b, t.c, t.pc)) =
      some (0x12#8, 0x34#8, 0x0003#16) := by decide

/-- L16-2. -/
theorem test_L16_2_ld_de_nn :
    after (loadAt 0x0000#16 [0x11#8, 0x34#8, 0x12#8] zero)
      (fun t => (t.d, t.e)) =
      some (0x34#8, 0x12#8) := by decide

/-- L16-3. -/
theorem test_L16_3_ld_hl_nn :
    after (loadAt 0x0000#16 [0x21#8, 0x34#8, 0x12#8] zero)
      (fun t => (t.h, t.l)) =
      some (0x34#8, 0x12#8) := by decide

/-- L16-4: little-endian whatever the parameter. -/
theorem test_L16_4_ld_sp_nn :
    after (loadAt 0x0000#16 [0x31#8, 0x34#8, 0x12#8] { zero with cfg := { ldrrOrder := .lowFirst } })
      (fun t => (t.sp, t.cost)) =
      some (0x1234#16, some ⟨3, 12⟩) := by decide

/-- L16-5: the word at 0xFFFF takes its high byte from 0x0000. -/
theorem test_L16_5_ld_sp_nn_wraps :
    after (loadAt 0xFFFE#16 [0x31#8, 0x34#8] { zero with mem := [(0x0000, 0x12#8)] })
      (fun t => (t.sp, t.pc)) =
      some (0x1234#16, 0x0001#16) := by decide

/-- L16-6. -/
theorem test_L16_6_ld_sp_hl :
    after (loadAt 0x0000#16 [0xF9#8] { zero with h := 0xC0#8, l := 0xFE#8 })
      (fun t => (t.sp, t.cost)) =
      some (0xC0FE#16, some ⟨2, 8⟩) := by decide

/-- L16-7. -/
theorem test_L16_7_ld_at_nn_sp :
    after (loadAt 0x0000#16 [0x08#8, 0x00#8, 0xC0#8] { zero with sp := 0xABCD#16 })
      (fun t => (ramByte t 0xC000#16, ramByte t 0xC001#16, t.cost)) =
      some (0xCD#8, 0xAB#8, some ⟨5, 20⟩) := by decide

/-- L16-8. -/
theorem test_L16_8_ld_at_nn_sp_wraps :
    after (loadAt 0x0100#16 [0x08#8, 0xFF#8, 0xFF#8] { zero with sp := 0xABCD#16 })
      (fun t => (ramByte t 0xFFFF#16, ramByte t 0x0000#16)) =
      some (0xCD#8, 0xAB#8) := by decide

/-- L16-12, `P_LDHL_SIGNED = false`. -/
theorem test_L16_12_ldhl_unsigned :
    after (loadAt 0x0000#16 [0xF8#8, 0x01#8] { zero with sp := 0x00FF#16 })
      (fun t => (t.h, t.l, t.f)) =
      some (0x01#8, 0x00#8, 0x20#8) := by decide

/-- L16-10, `P_LDHL_SIGNED = true`. -/
theorem test_L16_10_ldhl_signed :
    after (loadAt 0x0000#16 [0xF8#8, 0xFF#8] { zero with sp := 0x0005#16, cfg := { ldhlSigned := true } })
      (fun t => (t.h, t.l, t.f)) =
      some (0x00#8, 0x04#8, 0x30#8) := by decide

/-! ### Vectors: the stack (R150 to R152) -/

/-- ST-1. -/
theorem test_ST_1_push_bc :
    after (loadAt 0x0000#16 [0xC5#8] { zero with b := 0x12#8, c := 0x34#8 })
      (fun t => (ramByte t 0xFFFF#16, ramByte t 0xFFFE#16, t.sp)) =
      some (0x12#8, 0x34#8, 0xFFFE#16) := by decide

/-- ST-5, `P_PUSH_COST = (4, 16)`. -/
theorem test_ST_5_push_cost :
    after (loadAt 0x0000#16 [0xC5#8] { zero with sp := 0xFFFE#16, cfg := { pushCost := .four16 } })
      (fun t => t.clk) =
      some (⟨4, 16⟩) := by decide

/-- ST-2. -/
theorem test_ST_2_push_de :
    after (loadAt 0x0100#16 [0xD5#8] { zero with d := 0x12#8, e := 0x34#8, sp := 0x0001#16 })
      (fun t => (ramByte t 0x0000#16, ramByte t 0xFFFF#16)) =
      some (0x12#8, 0x34#8) := by decide

/-- ST-3. -/
theorem test_ST_3_push_af :
    after (loadAt 0x0000#16 [0xF5#8] { zero with a := 0x12#8, f := 0xB0#8, sp := 0xC000#16 })
      (fun t => (ramByte t 0xBFFF#16, ramByte t 0xBFFE#16)) =
      some (0x12#8, 0xB0#8) := by decide

/-- ST-4. -/
theorem test_ST_4_push_hl :
    after (loadAt 0x0000#16 [0xE5#8] { zero with h := 0xC0#8, sp := 0xC000#16 })
      (fun t => (ramByte t 0xBFFF#16, ramByte t 0xBFFE#16)) =
      some (0xC0#8, 0x00#8) := by decide

/-- V6, its second step. -/
theorem test_V6_pop_de :
    after (loadAt 0x0100#16 [0xD1#8] { zero with sp := 0xFFFC#16, mem := [(0xFFFC, 0xCD#8), (0xFFFD, 0xAB#8)] })
      (fun t => (t.d, t.e, t.sp)) =
      some (0xAB#8, 0xCD#8, 0xFFFE#16) := by decide

/-- ST-6. -/
theorem test_ST_6_pop_bc :
    after (loadAt 0x0100#16 [0xC1#8] { zero with sp := 0xFFFF#16, mem := [(0x0000, 0x12#8), (0xFFFF, 0x34#8)] })
      (fun t => (t.b, t.c, t.sp)) =
      some (0x12#8, 0x34#8, 0x0001#16) := by decide

/-- ST-7. -/
theorem test_ST_7_pop_hl :
    after (loadAt 0x0000#16 [0xE1#8] { zero with sp := 0xC000#16, mem := [(0xC000, 0x78#8), (0xC001, 0x56#8)] })
      (fun t => (t.h, t.l, t.cost)) =
      some (0x56#8, 0x78#8, some ⟨3, 12⟩) := by decide

/-- ST-8: the low nibble is masked. -/
theorem test_ST_8_pop_af :
    after (loadAt 0x0000#16 [0xF1#8] { zero with sp := 0xC000#16, mem := [(0xC000, 0xFF#8), (0xC001, 0x77#8)] })
      (fun t => (t.f, t.a)) =
      some (0xF0#8, 0x77#8) := by decide

/-! ### Vectors: 8-bit arithmetic (R161 to R172) -/

/-- V3. -/
theorem test_V3_add_a_b :
    after (loadAt 0x0000#16 [0x80#8] { zero with a := 0xFF#8, b := 0x01#8 })
      (fun t => (t.a, t.f)) =
      some (0x00#8, 0xB0#8) := by decide

/-- AR-1. -/
theorem test_AR_1_add_a_b :
    after (loadAt 0x0000#16 [0x80#8] { zero with a := 0x80#8, b := 0x80#8 })
      (fun t => (t.a, t.f)) =
      some (0x00#8, 0x90#8) := by decide

/-- AR-2. -/
theorem test_AR_2_add_a_c :
    after (loadAt 0x0000#16 [0x81#8] { zero with a := 0x0F#8, c := 0x01#8 })
      (fun t => (t.a, t.f)) =
      some (0x10#8, 0x20#8) := by decide

/-- AR-3. -/
theorem test_AR_3_add_a_a :
    after (loadAt 0x0000#16 [0x87#8] { zero with a := 0x88#8 })
      (fun t => (t.a, t.f)) =
      some (0x10#8, 0x30#8) := by decide

/-- AR-4: stale flags cleared. -/
theorem test_AR_4_add_a_at_hl :
    after (loadAt 0x0000#16 [0x86#8] { zero with a := 0x11#8, h := 0xC0#8, f := 0xF0#8, mem := [(0xC000, 0x22#8)] })
      (fun t => (t.a, t.f)) =
      some (0x33#8, 0x00#8) := by decide

/-- AR-5. -/
theorem test_AR_5_add_a_n :
    after (loadAt 0x0000#16 [0xC6#8, 0xFF#8] { zero with a := 0x01#8 })
      (fun t => (t.a, t.f)) =
      some (0x00#8, 0xB0#8) := by decide

/-- AR-6: the source-formula corner, H = 0. -/
theorem test_AR_6_adc_a_b_half_corner :
    after (loadAt 0x0000#16 [0x88#8] { zero with a := 0x01#8, b := 0x0F#8, f := 0x10#8 })
      (fun t => (t.a, t.f)) =
      some (0x11#8, 0x00#8) := by decide

/-- AR-7: the source-formula corner, C = 0. -/
theorem test_AR_7_adc_a_b_carry_corner :
    after (loadAt 0x0000#16 [0x88#8] { zero with a := 0x00#8, b := 0xFF#8, f := 0x10#8 })
      (fun t => (t.a, t.f)) =
      some (0x00#8, 0x80#8) := by decide

/-- AR-10. -/
theorem test_AR_10_adc_a_a :
    after (loadAt 0x0000#16 [0x8F#8] { zero with a := 0x80#8, f := 0x10#8 })
      (fun t => (t.a, t.f)) =
      some (0x01#8, 0x10#8) := by decide

/-- AR-11. -/
theorem test_AR_11_adc_a_n :
    after (loadAt 0x0000#16 [0xCE#8, 0x0F#8] { zero with a := 0x01#8 })
      (fun t => (t.a, t.f)) =
      some (0x10#8, 0x20#8) := by decide

/-- AR-12. -/
theorem test_AR_12_adc_a_at_hl :
    after (loadAt 0x0000#16 [0x8E#8] { zero with a := 0x10#8, h := 0xC0#8, f := 0x10#8, mem := [(0xC000, 0xF0#8)] })
      (fun t => (t.a, t.f)) =
      some (0x01#8, 0x10#8) := by decide

/-- V4. -/
theorem test_V4_sub_a_a :
    after (loadAt 0x0000#16 [0x97#8] { zero with a := 0x42#8 })
      (fun t => (t.a, t.f)) =
      some (0x00#8, 0xC0#8) := by decide

/-- AR-13. -/
theorem test_AR_13_sub_a_b :
    after (loadAt 0x0000#16 [0x90#8] { zero with b := 0x01#8 })
      (fun t => (t.a, t.f)) =
      some (0xFF#8, 0x70#8) := by decide

/-- AR-14. -/
theorem test_AR_14_sub_a_c :
    after (loadAt 0x0000#16 [0x91#8] { zero with a := 0x10#8, c := 0x01#8 })
      (fun t => (t.a, t.f)) =
      some (0x0F#8, 0x60#8) := by decide

/-- AR-16. -/
theorem test_AR_16_sub_a_n :
    after (loadAt 0x0000#16 [0xD6#8, 0x0F#8] { zero with a := 0x3E#8 })
      (fun t => (t.a, t.f)) =
      some (0x2F#8, 0x60#8) := by decide

/-- AR-17. -/
theorem test_AR_17_sub_a_at_hl :
    after (loadAt 0x0000#16 [0x96#8] { zero with a := 0x3E#8, h := 0xC0#8, mem := [(0xC000, 0x40#8)] })
      (fun t => (t.a, t.f)) =
      some (0xFE#8, 0x50#8) := by decide

/-! ### Vectors: logical (R180 to R189) -/

/-- LG-1. -/
theorem test_LG_1_and_a_b :
    after (loadAt 0x0000#16 [0xA0#8] { zero with a := 0xF0#8, b := 0x3C#8 })
      (fun t => (t.a, t.f)) =
      some (0x30#8, 0x20#8) := by decide

/-- LG-2: H stays set. -/
theorem test_LG_2_and_a_at_hl :
    after (loadAt 0x0000#16 [0xA6#8] { zero with a := 0xFF#8, h := 0xC0#8, f := 0x20#8, mem := [(0xC000, 0x0F#8)] })
      (fun t => (t.a, t.f)) =
      some (0x0F#8, 0x20#8) := by decide

/-- LG-3. -/
theorem test_LG_3_and_a_a :
    after (loadAt 0x0000#16 [0xA7#8] { zero with f := 0x10#8 })
      (fun t => (t.a, t.f)) =
      some (0x00#8, 0xA0#8) := by decide

/-- V5. -/
theorem test_V5_and_a_n :
    after (loadAt 0x0000#16 [0xE6#8, 0x0F#8] { zero with a := 0xF0#8 })
      (fun t => (t.a, t.f)) =
      some (0x00#8, 0xA0#8) := by decide

/-- LG-4. -/
theorem test_LG_4_or_a_b :
    after (loadAt 0x0000#16 [0xB0#8] { zero with f := 0xF0#8 })
      (fun t => (t.a, t.f)) =
      some (0x00#8, 0x80#8) := by decide

/-- LG-5. -/
theorem test_LG_5_or_a_n :
    after (loadAt 0x0000#16 [0xF6#8, 0x0F#8] { zero with a := 0xF0#8, f := 0x70#8 })
      (fun t => (t.a, t.f)) =
      some (0xFF#8, 0x00#8) := by decide

/-- LG-6. -/
theorem test_LG_6_or_a_at_hl :
    after (loadAt 0x0000#16 [0xB6#8] { zero with h := 0xC0#8, mem := [(0xC000, 0x81#8)] })
      (fun t => (t.a, t.f)) =
      some (0x81#8, 0x00#8) := by decide

/-- LG-7. -/
theorem test_LG_7_xor_a_a :
    after (loadAt 0x0000#16 [0xAF#8] { zero with a := 0x5A#8, f := 0x70#8 })
      (fun t => (t.a, t.f)) =
      some (0x00#8, 0x80#8) := by decide

/-- LG-8. -/
theorem test_LG_8_xor_a_n :
    after (loadAt 0x0000#16 [0xEE#8, 0xFF#8] { zero with a := 0x0F#8 })
      (fun t => (t.a, t.f)) =
      some (0xF0#8, 0x00#8) := by decide

/-- LG-9. -/
theorem test_LG_9_xor_a_at_hl :
    after (loadAt 0x0000#16 [0xAE#8] { zero with a := 0x3C#8, h := 0xC0#8, mem := [(0xC000, 0x3C#8)] })
      (fun t => (t.a, t.f)) =
      some (0x00#8, 0x80#8) := by decide

/-! ### Vectors: control and the clock (R200 to R203, R269) -/

/-- CT-1. -/
theorem test_CT_1_nop :
    after (loadAt 0x0000#16 [0x00#8] { zero with f := 0xA0#8 })
      (fun t => (t.pc, t.f)) =
      some (0x0001#16, 0xA0#8) := by decide

/-- CT-2. -/
theorem test_CT_2_halt :
    after (loadAt 0x0000#16 [0x76#8] zero)
      (fun t => (t.pc, t.cost)) =
      some (0x0001#16, some ⟨1, 4⟩) := by decide

/-- CT-3. -/
theorem test_CT_3_di :
    after (loadAt 0x0000#16 [0xF3#8] zero)
      (fun t => (t.pc, t.cost)) =
      some (0x0001#16, some ⟨1, 4⟩) := by decide

/-- CT-3. -/
theorem test_CT_3_ei :
    after (loadAt 0x0000#16 [0xFB#8] zero)
      (fun t => (t.pc, t.cost)) =
      some (0x0001#16, some ⟨1, 4⟩) := by decide

/-- DP-4. -/
theorem test_DP_4_clock_wraps :
    after (loadAt 0x0000#16 [0x00#8] { zero with clk := ⟨0xFFFF, 0xFFFC⟩ })
      (fun t => t.clk) =
      some (⟨0, 0⟩) := by decide

/-! ### Vectors: faults (R77, R231, R232) -/

/-- DP-1: the events are the opcode read alone, no cost, the clock unchanged. -/
theorem test_DP_1_unknown :
    afterFault (loadAt 0x0000#16 [0xD3#8] zero) (fun t => (t.pc, t.clk, t.cost, t.events)) =
      some (⟨.unknown, 0xD3#8, 0x0000#16⟩, 0x0001#16, ⟨0, 0⟩, none, [.read1 0x0000#16 0xD3#8]) := by decide

/-- DP-2: INC B is not executed. -/
theorem test_DP_2_unimplemented :
    afterFault (loadAt 0x0000#16 [0x04#8] { zero with b := 0x05#8 }) (fun t => (t.b, t.pc)) =
      some (⟨.unimplemented, 0x04#8, 0x0000#16⟩, 0x05#8, 0x0001#16) := by decide

/-- DP-3: the byte after 0xCB is not read. -/
theorem test_DP_3_cb_prefix :
    afterFault (loadAt 0x0010#16 [0xCB#8, 0x37#8] zero) (fun t => (t.pc, t.events)) =
      some (⟨.unimplemented, 0xCB#8, 0x0010#16⟩, 0x0011#16, [.read1 0x0010#16 0xCB#8]) := by decide

/-- A stopped CPU steps no further (R231). -/
theorem test_stopped_stays_stopped :
    afterFault { zero with stopped := some ⟨.unknown, 0xD3#8, 0x0000#16⟩ } (fun t => (t.pc, t.clk)) =
      some (⟨.unknown, 0xD3#8, 0x0000#16⟩, 0x0000#16, ⟨0, 0⟩) := by decide

/-- DP-6: reset from a state with everything set leaves memory. -/
theorem test_DP_6_reset :
    (resetCpu { zero with
        a := 0x12#8, f := 0xF0#8, pc := 0x1234#16, sp := 0xFFFE#16, clk := ⟨3, 12⟩, mem := [(0xC000, 0x5A#8)] }) =
      { zero with mem := [(0xC000, 0x5A#8)] } := by decide

/-! ### Memory (log 3) -/

/-- Writing what an unlisted address reads as takes the entry out; a write in the middle keeps the order. -/
theorem test_memory_canonical :
    Memory.write [(1, 0x11#8), (5, 0x55#8)] 5 0x00#8 = [(1, 0x11#8)] ∧
    Memory.write [(1, 0x11#8), (5, 0x55#8)] 3 0x33#8 = [(1, 0x11#8), (3, 0x33#8), (5, 0x55#8)] ∧
    Memory.write [(1, 0x11#8)] 1 0x12#8 = [(1, 0x12#8)] := by decide

/-! ### Witnesses for the hypotheses of the statements -/

/-- A running state on the RAM bus with its memory canonical and a program byte at pc. -/
def running (op : Byte) : State := loadAt 0x0100#16 [op, 0x34#8, 0x12#8] { zero with h := 0xC0#8, sp := 0xC000#16 }

/-- SetFlagsIsResetThenSet: F's low nibble is 0, all four flags set. -/
theorem witness_SetFlags : ({ zero with f := 0xF0#8 } : State).f &&& 0x0F#8 = 0#8 := by decide

/-- RamReadsTheLastByteWritten: canonical memory, RAM bus; with both ends of memory listed. -/
theorem witness_Ram :
    Memory.wf ({ zero with mem := [(0, 0x12#8), (65535, 0x34#8)] } : State).mem ∧
    ({ zero with mem := [(0, 0x12#8), (65535, 0x34#8)] } : State).cfg.bus = .ram := by decide

/-- CanonicalMemoriesThatReadAlikeAreEqual, first clause. -/
theorem witness_CanonicalMemories_alike :
    Memory.wf [(0, 0x12#8), (65535, 0x34#8)] ∧
    ∀ a : Word, Memory.read [(0, 0x12#8), (65535, 0x34#8)] a.toNat =
      Memory.read (Memory.write [(65535, 0x34#8)] 0 0x12#8) a.toNat := ⟨by decide, fun _ => rfl⟩

/-- CanonicalMemoriesThatReadAlikeAreEqual, second clause: the write of an unlisted value takes the entry out. -/
theorem witness_CanonicalMemories_write :
    Memory.wf [(65535, 0x34#8)] ∧ Memory.wf ([] : Memory) ∧
    ∀ x : Word, Memory.read [] x.toNat = if x = 0xFFFF#16 then 0x00#8 else Memory.read [(65535, 0x34#8)] x.toNat := by
  have wf : Memory.wf [(65535, 0x34#8)] := by decide
  exact ⟨wf, by decide, fun x => Memory.read_write_word (m := [(65535, 0x34#8)]) (a := 0xFFFF#16) (v := 0x00#8) wf⟩

/-- EveryByteIsImplementedOrFatal: each case occurs. -/
theorem witness_EveryByte :
    (decodeOpcode 0x00#8).entry = .impl .nop ∧ (decodeOpcode 0xFF#8).entry = .fatal .unimplemented 0xFF#8 ∧
    (decodeOpcode 0xFD#8).entry = .fatal .unknown 0xFD#8 := by decide

/-- DecodeInvertsEncode: a well-formed instruction of each length. -/
theorem witness_DecodeInvertsEncode :
    Code.wf ⟨.halt, []⟩ = true ∧ Code.wf ⟨.andA_n, [0xFF#8]⟩ = true ∧ Code.wf ⟨.ldSP_nn, [0xFF#8, 0x00#8]⟩ = true := by
  decide

/-- EncodeInvertsDecode: a decoded stream, and both refusals. -/
theorem witness_EncodeInvertsDecode :
    decode [0xFA#8, 0x34#8, 0x12#8] = .ok ⟨.ldA_atNN, [0x34#8, 0x12#8]⟩ [] ∧ decode [] = .refused .noByte ∧
    decode [0xFA#8, 0x34#8] = .refused (.truncated .ldA_atNN) := by decide

/-- LdRegRegCopiesARegister: a register copied to itself; and to another. -/
theorem witness_LdRegReg :
    (Form.ldRegReg .L .L).instr = .ldL_L ∧ (Form.ldRegReg .B .A).instr = .ldB_A := by decide

/-- LdhUnderBothAddressingParameters: each value of the parameter. -/
theorem witness_Ldh :
    zero.cfg.ldhEa = .pcPage ∧ ({ zero with cfg := { ldhEa := .immOffset } } : State).cfg.ldhEa = .immOffset := by decide

/-- LdPairImmUnderBothByteOrders: each value of the parameter. -/
theorem witness_LdPairImm :
    zero.cfg.ldrrOrder = .highFirst ∧
    ({ zero with cfg := { ldrrOrder := .lowFirst } } : State).cfg.ldrrOrder = .lowFirst := by decide

/-- LdhlUnderBothSignednessParameters: each value of the parameter. -/
theorem witness_Ldhl :
    zero.cfg.ldhlSigned = false ∧ ({ zero with cfg := { ldhlSigned := true } } : State).cfg.ldhlSigned = true := by decide

/-- PushStoresHighThenLow: each value of the parameter. -/
theorem witness_Push :
    zero.cfg.pushCost = .three12 ∧ ({ zero with cfg := { pushCost := .four16 } } : State).cfg.pushCost = .four16 := by
  decide

/-- PushThenPopRestores: canonical memory, RAM bus, F's low nibble 0, with SP where both stores wrap. -/
theorem witness_PushThenPop :
    Memory.wf ({ zero with f := 0xF0#8, mem := [(0xC000, 0x5A#8)] } : State).mem ∧
    ({ zero with f := 0xF0#8, mem := [(0xC000, 0x5A#8)] } : State).cfg.bus = .ram ∧
    ({ zero with f := 0xF0#8, mem := [(0xC000, 0x5A#8)] } : State).f &&& 0x0F#8 = 0#8 := by decide

/-- AdcFlagsAndTheirTwoCorners: carry-in 1 with a low nibble 0xF and with 0xFF, and each clause's complement. -/
theorem witness_Adc :
    (0x0F#8).toNat % 16 = 15 ∧ (0xFF#8).toNat % 16 = 15 ∧ ¬ ((0x0E#8).toNat % 16 = 15) ∧ ¬ (0xFE#8 = 0xFF#8) := by decide

/-- FatalOpcodesRaiseTheFatalFault: the first and last byte of each kind. -/
theorem witness_FatalOpcodes :
    0x03#8 ∈ fatalBytes .unimplemented ∧ 0xFF#8 ∈ fatalBytes .unimplemented ∧ 0xD3#8 ∈ fatalBytes .unknown ∧
    0xFD#8 ∈ fatalBytes .unknown := by decide

/-- FatalStepLeavesTheFetchedState, first clause: a fatal byte of each kind at pc. -/
theorem witness_FatalStep :
    (running 0x03#8).stopped = none ∧ busByte (running 0x03#8).pc (running 0x03#8) ∈ fatalBytes .unimplemented ∧
    busByte (running 0xFD#8).pc (running 0xFD#8) ∈ fatalBytes .unknown := by decide

/-- FatalStepLeavesTheFetchedState, second clause: a step that faults. -/
theorem witness_FatalStep_left :
    step (running 0xFD#8) = .fault (.fatal ⟨.unknown, 0xFD#8, 0x0100#16⟩
      { fetched (running 0xFD#8) with stopped := some ⟨.unknown, 0xFD#8, 0x0100#16⟩ }) := rfl

/-- ImplementedInstructionsComplete: an implemented instruction. -/
theorem witness_Implemented : Instr.popAF.entry = .impl .popAF := rfl

/-- StepFetchesRunsAndFolds: a running CPU. -/
theorem witness_StepFetches : (running 0x00#8).stopped = none := rfl

/-- StepRunsTheDecodedInstruction: instructions with no, one and two immediates at pc. -/
theorem witness_StepRuns :
    (running 0x00#8).stopped = none ∧ (running 0x00#8).cfg.bus = .ram ∧
    decode [ramByte (running 0x00#8) 0x0100#16, ramByte (running 0x00#8) 0x0101#16, ramByte (running 0x00#8) 0x0102#16] =
      .ok ⟨.nop, []⟩ [0x34#8, 0x12#8] ∧
    decode [ramByte (running 0x06#8) 0x0100#16, ramByte (running 0x06#8) 0x0101#16, ramByte (running 0x06#8) 0x0102#16] =
      .ok ⟨.ldB_n, [0x34#8]⟩ [0x12#8] ∧ Instr.ldB_n.immCount = 1 ∧
    decode [ramByte (running 0x31#8) 0x0100#16, ramByte (running 0x31#8) 0x0101#16, ramByte (running 0x31#8) 0x0102#16] =
      .ok ⟨.ldSP_nn, [0x34#8, 0x12#8]⟩ [] ∧ Instr.ldSP_nn.immCount = 2 := by decide

/-- StepMeetsTheAdvanceAndCostTable: an implemented opcode at pc, F's low nibble 0. -/
theorem witness_StepMeets :
    (running 0xC5#8).stopped = none ∧ decodeOpcode (busByte 0x0100#16 (running 0xC5#8)) = (Form.push .BC).instr ∧
    (running 0xC5#8).f &&& 0x0F#8 = 0#8 := by decide

/-- StepAnswersNextOrFatal: a step of each outcome. -/
theorem witness_StepAnswers :
    (∃ t, step (running 0x00#8) = .next t) ∧ (∃ mark left, step (running 0xD3#8) = .fault (.fatal mark left)) :=
  ⟨⟨_, rfl⟩, ⟨_, _, rfl⟩⟩

/-- StepKeepsTheInvariant: a state that meets it and steps (PUSH BC). -/
theorem witness_StepKeepsInv : Inv (running 0xC5#8) ∧ ∃ t, step (running 0xC5#8) = .next t :=
  ⟨⟨by decide, by decide, rfl, by decide, by decide, rfl⟩, ⟨_, rfl⟩⟩

/-- InvariantHoldsAtConstruction: other parameters, the smallest width among them, and memory contents. -/
theorem witness_InvariantAtConstruction :
    Config.wf { ldrrOrder := .lowFirst, clkBits := 1, bus := .free } = true ∧ Memory.wf [(65535, 0x34#8)] := by decide

/-- RunEndsAtItsFirstFault: a run that ends in a fault, and one that does not, from the invariant. -/
theorem witness_Run :
    (∃ mark left, core.run 1 (running 0xD3#8) = .fault (.fatal mark left)) ∧
    (∃ t, core.run 1 (running 0x00#8) = .next t) ∧ Inv (running 0x00#8) :=
  ⟨⟨_, _, rfl⟩, ⟨_, rfl⟩, ⟨by decide, by decide, rfl, by decide, by decide, rfl⟩⟩

/-- ClockWrapsAtItsWidth: K = 16 and K = 64 (DP-4, DP-5). -/
theorem witness_ClockWraps :
    ({ running 0x00#8 with clk := ⟨0xFFFF, 0xFFFC⟩ } : State).stopped = none ∧
    decodeOpcode (busByte 0x0100#16 { running 0x00#8 with clk := ⟨0xFFFF, 0xFFFC⟩ }) = .nop ∧
    (running 0x00#8).cfg.clkBits = 16 ∧
    ({ running 0x00#8 with clk := ⟨0xFFFF, 0xFFFC⟩, cfg := { clkBits := 64 } } : State).cfg.clkBits = 64 := by decide

/-- RegisterFrameOfEveryForm: registers that are no destination, and a form that leaves SP. -/
theorem witness_RegisterFrame :
    Reg.B ∉ (Form.alu .add .imm).destRegs ∧ Reg.F ∉ (Form.ldRegImm .A).destRegs ∧ Form.ldhlSp.writesSp = false ∧
    Form.ldAbsSp.writesSp = false := by decide

/-- MemoryFrameOfEveryForm: an address outside the stored ones, beside them; and a form that stores nothing. -/
theorem witness_MemoryFrame :
    0xC000#16 ∉ storedAddrs (.push .BC) { zero with sp := 0xC000#16 } ∧
    0xBFFD#16 ∉ storedAddrs (.push .BC) { zero with sp := 0xC000#16 } ∧ storedAddrs (.pop .BC) zero = [] := by decide

/-- EventsAccountForMemory: a step that reads and stores. -/
theorem witness_Events :
    Memory.wf (running 0x36#8).mem ∧ (running 0x36#8).cfg.bus = .ram ∧ ∃ t, step (running 0x36#8) = .next t :=
  ⟨by decide, rfl, ⟨_, rfl⟩⟩

/-- Two states with the same CPU state whose memories differ at 0xD000, which LD SP,nn does not read. -/
def other (s : State) : State := { s with mem := Memory.write s.mem 0xD000 0x77#8 }

/-- They agree on the CPU state. -/
theorem cpuAgree_other (s : State) : CpuAgree s (other s) :=
  ⟨fun r => by cases r <;> rfl, rfl, rfl, rfl, rfl, rfl, rfl⟩

/-- What LD SP,nn reads: the opcode byte and the word after it. -/
theorem ldSp_events :
    ∃ t, step (running 0x31#8) = .next t ∧ t.events = [.read1 0x0100#16 0x31#8, .read2 0x0101#16 0x1234#16] :=
  ⟨_, rfl, by decide⟩

/-- The two memories agree but at 0xD000, where they differ. -/
theorem other_agrees (s : State) (a : Word) (h : a ≠ 0xD000#16) : ramByte s a = ramByte (other s) a :=
  (Memory.read_write_other fun e => h (BitVec.eq_of_toNat_eq e)).symm

theorem other_differs :
    ramByte (running 0x31#8) 0xD000#16 ≠ ramByte (other (running 0x31#8)) 0xD000#16 := by decide

/-- StepDependsOnlyOnWhatItReads, first clause. -/
theorem witness_StepDepends_ram :
    CpuAgree (running 0x31#8) (other (running 0x31#8)) ∧ (running 0x31#8).cfg.bus = .ram ∧
    ∃ t, step (running 0x31#8) = .next t ∧
      ∀ ev ∈ t.events, ∀ a ∈ ev.readAddrs, ramByte (running 0x31#8) a = ramByte (other (running 0x31#8)) a := by
  obtain ⟨t, ht, he⟩ := ldSp_events
  have unread : ∀ ev ∈ t.events, ∀ a ∈ ev.readAddrs, a ≠ 0xD000#16 := by
    simp [he, BusEvent.readAddrs]
  exact ⟨cpuAgree_other _, rfl, t, ht, fun ev hev a ha => other_agrees _ a (unread ev hev a ha)⟩

/-- StepDependsOnlyOnWhatItReads, second clause. -/
theorem witness_StepDepends_free :
    CpuAgree { zero with cfg := { bus := .free } } (other { zero with cfg := { bus := .free } }) ∧
    ({ zero with cfg := { bus := .free } } : State).cfg.bus = .free ∧
    ({ zero with cfg := { bus := .free } } : State).busReads = (other { zero with cfg := { bus := .free } }).busReads :=
  ⟨cpuAgree_other _, rfl, rfl⟩

/-- StepDependsOnlyOnWhatItReads, third clause. -/
theorem witness_StepDepends_fault :
    CpuAgree (running 0xDD#8) (other (running 0xDD#8)) ∧
    (∃ mark left, step (running 0xDD#8) = .fault (.fatal mark left)) ∧
    busByte 0x0100#16 (running 0xDD#8) = busByte 0x0100#16 (other (running 0xDD#8)) :=
  ⟨cpuAgree_other _, ⟨_, _, rfl⟩, by decide⟩

/-- FetchSeesEarlierStores: LD (HL),B at 0x0100 with HL = 0x0101. -/
theorem witness_FetchSees :
    Memory.wf (loadAt 0x0100#16 [0x70#8] { zero with h := 0x01#8, l := 0x01#8, b := 0x76#8 }).mem ∧
    (loadAt 0x0100#16 [0x70#8] { zero with h := 0x01#8, l := 0x01#8, b := 0x76#8 }).cfg.bus = .ram ∧
    (loadAt 0x0100#16 [0x70#8] { zero with h := 0x01#8, l := 0x01#8, b := 0x76#8 }).stopped = none ∧
    decodeOpcode (busByte 0x0100#16 (loadAt 0x0100#16 [0x70#8] { zero with h := 0x01#8, l := 0x01#8, b := 0x76#8 })) =
      (Form.ldAtHLReg .B).instr ∧
    readPair .HL (loadAt 0x0100#16 [0x70#8] { zero with h := 0x01#8, l := 0x01#8, b := 0x76#8 }) =
      0x0100#16 + 1#16 := by decide

/-- HostWriteChangesOneByte: canonical memory. -/
theorem witness_HostWrite : Memory.wf (running 0x00#8).mem := by decide

/-- OldFlagsMatterOnlyToAdc: an operation that is not ADC; and ADC with the same C under other flags. -/
theorem witness_OldFlags :
    AluOp.sub ≠ .adc ∧ (0xF0#8).getLsbD 4 = ({ zero with f := 0x10#8 } : State).f.getLsbD 4 := by decide

end Sys2Proof.Tests
end

section
/-! Registers, pairs, flags and reset: the rules of the state's operations (10_state.md). -/

namespace Sys2Proof.Proofs.State

open Sys2Proof Sys2Proof.Machine

/-! ### Flags as bits of F (R25, R27) -/

/-- The bit of F that holds a flag (R25). -/
def flagBit (x : Flag) : Nat :=
  match x with
  | .Z => 7
  | .N => 6
  | .H => 5
  | .C => 4

theorem flagMask_eq_twoPow (x : Flag) : flagMask x = BitVec.twoPow 8 (flagBit x) := by
  cases x <;> rfl

theorem flagBit_lt (x : Flag) : flagBit x < 8 := by
  cases x <;> decide

@[simp] theorem flagBit_inj {x y : Flag} : flagBit x = flagBit y ↔ x = y := by
  cases x <;> cases y <;> decide

/-- Bit by bit, a flag's mask is 1 at that flag alone. -/
theorem getLsbD_flagMask (x y : Flag) : (flagMask x).getLsbD (flagBit y) = decide (y = x) := by
  simp [flagMask_eq_twoPow, flagBit_lt, eq_comm]

/-- `Test(X)` reads X's bit of F. -/
theorem testFlag_eq_getLsbD (x : Flag) (s : State) : testFlag x s = s.f.getLsbD (flagBit x) := by
  have mask_ne_zero : 0#8 ≠ BitVec.twoPow 8 (flagBit x) := by cases x <;> decide
  rw [testFlag, flagMask_eq_twoPow, BitVec.and_twoPow]
  cases s.f.getLsbD (flagBit x) <;> simp [mask_ne_zero]

theorem testFlag_setFlag (x y : Flag) (s : State) :
    testFlag y (setFlag x s) = if y = x then true else testFlag y s := by
  have bit : (s.f ||| flagMask x).getLsbD (flagBit y) = (s.f.getLsbD (flagBit y) || decide (y = x)) := by
    rw [BitVec.getLsbD_or, getLsbD_flagMask]
  rw [testFlag_eq_getLsbD, testFlag_eq_getLsbD, setFlag, bit]
  split <;> simp [*]

theorem testFlag_resetFlag (x y : Flag) (s : State) :
    testFlag y (resetFlag x s) = if y = x then false else testFlag y s := by
  have bit : (s.f &&& ~~~ flagMask x).getLsbD (flagBit y) = (s.f.getLsbD (flagBit y) && !decide (y = x)) := by
    rw [BitVec.getLsbD_and, BitVec.getLsbD_not, getLsbD_flagMask, decide_eq_true (flagBit_lt y), Bool.true_and]
  rw [testFlag_eq_getLsbD, testFlag_eq_getLsbD, resetFlag, bit]
  split <;> simp [*]

theorem setFlag_setFlag (x : Flag) (s : State) : setFlag x (setFlag x s) = setFlag x s := by
  simp [setFlag, BitVec.or_assoc]

theorem resetFlag_resetFlag (x : Flag) (s : State) : resetFlag x (resetFlag x s) = resetFlag x s := by
  simp [resetFlag, BitVec.and_assoc]

/-- Settles O5: a flag's mask is one bit of F, and Set, Reset and Test act on that bit. -/
theorem flagOperationsTouchOneBit : Obligations.FlagOperationsTouchOneBit :=
  ⟨rfl, rfl, rfl, rfl, fun x y s =>
    ⟨rfl, rfl, setFlag_setFlag x s, resetFlag_resetFlag x s, testFlag_setFlag x y s, testFlag_resetFlag x y s,
      decide_eq_true_iff⟩⟩

/-! ### setflags (R28) -/

theorem setFlags_eq (z n h c : Bool) (s : State) : setFlags z n h c s = { s with f := packFlags z n h c } := by
  rw [setFlags, flagByte_eq_packFlags]

/-- After `setflags` each flag reads its argument. -/
theorem testFlag_setFlags (z n h c : Bool) (x : Flag) (s : State) :
    testFlag x (setFlags z n h c s) =
      match x with
      | .Z => z
      | .N => n
      | .H => h
      | .C => c := by
  have bit (b : Bool) (y : Flag) : (if b then flagMask y else 0#8).getLsbD (flagBit x) = (b && decide (x = y)) := by
    cases b
    · exact BitVec.getLsbD_zero
    · simpa using getLsbD_flagMask y x
  rw [testFlag_eq_getLsbD, setFlags_f]
  simp only [flagByte, BitVec.getLsbD_or, bit]
  cases x <;> simp

/-- The four resets clear F's high nibble. -/
theorem resetFlag_all (s : State) :
    resetFlag .C (resetFlag .H (resetFlag .N (resetFlag .Z s))) = { s with f := s.f &&& 0x0F#8 } := by
  simp [resetFlag, flagMask, BitVec.and_assoc]

/-- `Set(X)` made only where an argument is 1, as one update of F. -/
theorem ite_setFlag (b : Bool) (x : Flag) (s : State) :
    (if b then setFlag x s else s) = { s with f := s.f ||| (if b then flagMask x else 0#8) } := by
  cases b
  · simp
  · rfl

/-- Settles O6: the resets leave F's low nibble, which is 0, and the sets then OR in the byte of the four flags. -/
theorem setFlagsIsResetThenSet : Obligations.SetFlagsIsResetThenSet := by
  intro z n h c s
  refine ⟨setFlags_eq z n h c s, testFlag_setFlags z n h c .Z s, testFlag_setFlags z n h c .N s,
    testFlag_setFlags z n h c .H s, testFlag_setFlags z n h c .C s, fun low => ?_⟩
  simp only [resetFlag_all, low, ite_setFlag, BitVec.zero_or]
  rfl

/-! ### What the shared operations do to registers and SP (R22, R35) -/

theorem readReg_hlInc_of_ne {r : Reg} (hH : r ≠ .H) (hL : r ≠ .L) (s : State) :
    readReg r (hlInc s) = readReg r s := by
  simp only [hlInc]
  split <;> simp [hH, hL]

theorem readReg_hlDec_of_ne {r : Reg} (hH : r ≠ .H) (hL : r ≠ .L) (s : State) :
    readReg r (hlDec s) = readReg r s := by
  simp only [hlDec]
  split <;> simp [hH, hL]

@[simp] theorem hlInc_sp (s : State) : (hlInc s).sp = s.sp := by
  rw [hlInc_eq]

@[simp] theorem hlDec_sp (s : State) : (hlDec s).sp = s.sp := by
  rw [hlDec_eq]

theorem readReg_writePairBytes_of_ne {r : Reg} {p : Pair} (hHi : r ≠ pairHi p) (hLo : r ≠ pairLo p)
    (order : LdrrOrder) (b1 b2 : Byte) (s : State) :
    readReg r (writePairBytes order p b1 b2 s) = readReg r s := by
  cases order <;> simp [writePairBytes, hHi, hLo]

@[simp] theorem writePairBytes_sp (order : LdrrOrder) (p : Pair) (b1 b2 : Byte) (s : State) :
    (writePairBytes order p b1 b2 s).sp = s.sp := by
  cases order <;> simp [writePairBytes]

@[simp] theorem readReg_pushByte (r : Reg) (v : Byte) (s : State) : readReg r (pushByte v s) = readReg r s := by
  simp [pushByte]

@[simp] theorem readReg_popByte_snd (r : Reg) (s : State) : readReg r (popByte s).2 = readReg r s := by
  simp [popByte]

theorem readReg_popPair_of_ne {r : Reg} {p : Pair} (hHi : r ≠ pairHi p) (hLo : r ≠ pairLo p) (s : State) :
    readReg r (popPair p s) = readReg r s := by
  simp [popPair, hHi, hLo]

@[simp] theorem readReg_aluOperand_snd (r : Reg) (src : AluSrc) (s : State) :
    readReg r (aluOperand src s).2.2 = readReg r s := by
  cases src <;> simp [aluOperand]

@[simp] theorem aluOperand_snd_sp (src : AluSrc) (s : State) : (aluOperand src s).2.2.sp = s.sp := by
  cases src <;> simp [aluOperand]

@[simp] theorem readReg_storeAHigh (r : Reg) (s : State) : readReg r (storeAHigh s) = readReg r s := by
  unfold storeAHigh
  split <;> simp

@[simp] theorem storeAHigh_sp (s : State) : (storeAHigh s).sp = s.sp := by
  unfold storeAHigh
  split <;> simp

theorem readReg_loadAHigh_of_ne {r : Reg} (hA : r ≠ .A) (s : State) : readReg r (loadAHigh s) = readReg r s := by
  unfold loadAHigh
  split <;> simp [hA]

@[simp] theorem loadAHigh_sp (s : State) : (loadAHigh s).sp = s.sp := by
  unfold loadAHigh
  split <;> simp

/-! ### The register frame of every form (R22, R29, R35) -/

/-- A register that is no destination of a form reads as before its operation (R22). -/
theorem readReg_runForm_of_notMem_destRegs {f : Form} {r : Reg} (hr : r ∉ f.destRegs) (s : State) :
    readReg r (runForm f s) = readReg r s := by
  cases f <;> simp only [Form.destRegs, List.mem_cons, List.not_mem_nil, or_false, not_or, not_false_eq_true] at hr
  case ldRegReg d q => simp [runForm, loadRegReg, writeOpnd, hr]
  case ldRegImm d => simp [runForm, loadRegImm, writeOpnd, hr]
  case ldRegAtHL d => simp [runForm, loadRegAt, writeOpnd, hr]
  case ldAAtBC | ldAAtDE | ldAHighC => simp [runForm, loadRegAt, writeOpnd, hr]
  case ldAAbs => simp [runForm, loadAAbs, hr]
  case ldhAAtN => exact readReg_loadAHigh_of_ne hr s
  case ldiAtHLA => simp [runForm, storeAThen, readReg_hlInc_of_ne, hr]
  case lddAtHLA => simp [runForm, storeAThen, readReg_hlDec_of_ne, hr]
  case ldiAAtHL => simp [runForm, loadAThen, readReg_hlInc_of_ne, hr]
  case lddAAtHL => simp [runForm, loadAThen, readReg_hlDec_of_ne, hr]
  case ldPairImm p => simp [runForm, loadPairImm, readReg_writePairBytes_of_ne, hr]
  case pop | popAF =>
    obtain ⟨hHi, hLo⟩ := hr
    exact readReg_popPair_of_ne hHi hLo s
  case ldhlSp => simp [runForm, loadHLSpImm, writePair, pairHi, pairLo, hr]
  case alu op src => simp [runForm, aluInstr, hr]
  case ldAtHLReg | ldAtBCA | ldAtDEA | ldHighCA => simp [runForm, storeRegAt]
  case ldAtHLImm => simp [runForm, storeImmAtHL]
  case ldAbsA => simp [runForm, storeAAbs]
  case ldhAtNA => exact readReg_storeAHigh r s
  case ldSpImm => simp [runForm, loadSpImm]
  case ldSpHL => simp [runForm, loadSpHL]
  case ldAbsSp => simp [runForm, storeSpAbs]
  case push p => simp [runForm, pushPair]
  case nop | halt | di | ei => exact readReg_charge r 1 4 s

/-- No operand register and no half of BC, DE or HL is F, so F is a destination only where flags are written or AF is
popped (R29, R120, R135). -/
theorem F_mem_destRegs_iff (f : Form) :
    Reg.F ∈ f.destRegs ↔ (∃ op src, f = .alu op src) ∨ f = .ldhlSp ∨ f = .popAF := by
  have opnd_ne (o : Opnd) : Reg.F ≠ opndReg o := (opndReg_ne_F o).symm
  cases f
  case ldPairImm p => cases p <;> simp [Form.destRegs, mainPair, pairHi, pairLo]
  case pop p => cases p <;> simp [Form.destRegs, mainPair, pairHi, pairLo]
  all_goals simp [Form.destRegs, opnd_ne]

/-- A form that does not write SP leaves it as it is (R35). -/
theorem runForm_sp_of_not_writesSp {f : Form} (hf : f.writesSp = false) (s : State) : (runForm f s).sp = s.sp := by
  cases f
  case ldSpImm | ldSpHL | push | pop | popAF => simp [Form.writesSp] at hf
  case ldhAtNA => exact storeAHigh_sp s
  case ldhAAtN => exact loadAHigh_sp s
  all_goals
    simp [runForm, loadRegReg, loadRegImm, loadRegAt, storeRegAt, storeImmAtHL, loadAAbs, storeAAbs, storeAThen,
      loadAThen, storeSpAbs, loadHLSpImm, loadPairImm, aluInstr, writeOpnd, writePair]

/-- Settles O52, from the frames of the forms' operations. -/
theorem registerFrameOfEveryForm : Obligations.RegisterFrameOfEveryForm := by
  intro f s
  obtain ⟨stopped, cfg, clk, cost, -⟩ := runForm_keeps f s
  exact ⟨runForm f s, exec_instr f s, fun _ hr => readReg_runForm_of_notMem_destRegs hr s, F_mem_destRegs_iff f,
    fun hf => runForm_sp_of_not_writesSp hf s, clk, cfg, cost, stopped⟩

/-! ### Reset (R38, R260, R261) -/

theorem readReg_resetCpu (r : Reg) (s : State) : readReg r (resetCpu s) = 0x00#8 := by
  cases r <;> rfl

theorem testFlag_resetCpu (x : Flag) (s : State) : testFlag x (resetCpu s) = false := by
  rw [testFlag_eq_getLsbD]
  exact BitVec.getLsbD_zero

theorem resetCpu_resetCpu (s : State) : resetCpu (resetCpu s) = resetCpu s := rfl

/-- A CPU just constructed is one that reset has nothing to do on (R246, R263). -/
theorem resetCpu_boot (cfg : Config) (mem : Memory) : resetCpu (State.boot cfg mem) = State.boot cfg mem := rfl

/-- Settles O1: State.reset is its own reset, so its registers and flags are those the reset operation writes. -/
theorem resetStateHasTheResetValues : Obligations.ResetStateHasTheResetValues :=
  have reset_eq : resetCpu State.reset = State.reset := resetCpu_boot {} []
  ⟨fun r => reset_eq ▸ readReg_resetCpu r State.reset, fun x => reset_eq ▸ testFlag_resetCpu x State.reset,
    rfl, rfl, rfl, rfl⟩

/-- Settles O2: every field of the CPU state is overwritten and no other. -/
theorem resetOperationZeroesTheCpu : Obligations.ResetOperationZeroesTheCpu := fun s =>
  ⟨fun r => readReg_resetCpu r s, fun x => testFlag_resetCpu x s, rfl, rfl, rfl, rfl, rfl, rfl, rfl,
    resetCpu_resetCpu s⟩

/-! ### Pairs and registers (R21, R24, R26) -/

/-- Settles O3: join and split invert each other, and a pair is its two registers. -/
theorem pairsAreViewsOfTheirRegisters : Obligations.PairsAreViewsOfTheirRegisters :=
  ⟨fun h l => ⟨join_toNat h l, split_join h l⟩, join_split, fun _ => ⟨rfl, rfl, rfl, rfl⟩,
    fun _ _ => ⟨rfl, rfl, rfl, rfl⟩⟩

/-- Settles O4, by the laws of `writeReg`, field by field. -/
theorem writtenRegisterReadsBack : Obligations.WrittenRegisterReadsBack := fun r q v s =>
  ⟨readReg_writeReg q r v s, writeReg_pc r v s, writeReg_sp r v s, writeReg_clk r v s, writeReg_last r v s,
    writeReg_mem r v s, writeReg_cfg r v s, writeReg_events r v s, writeReg_cost r v s, writeReg_busReads r v s,
    writeReg_stopped r v s⟩

/-! ### The invariant at construction (R38, R39, R6) -/

/-- Both clocks start at 0, which is below 2^K for every K. -/
theorem boot_inv {cfg : Config} {mem : Memory} (hcfg : cfg.wf = true) (hmem : Memory.wf mem) :
    Inv (State.boot cfg mem) where
  memWf := hmem
  fLow := BitVec.zero_and
  lastZero := rfl
  clkM := Nat.two_pow_pos cfg.clkBits
  clkT := Nat.two_pow_pos cfg.clkBits
  cfgWf := hcfg

/-- Settles O49: State.reset is the construction with R6's default parameters. -/
theorem invariantHoldsAtConstruction : Obligations.InvariantHoldsAtConstruction :=
  ⟨boot_inv rfl Memory.reset_wf, fun _ _ => boot_inv⟩

end Sys2Proof.Proofs.State
end

section
/-! Memory and the bus: the canonical form, the RAM bus, and what each form reads and stores (20_memory.md). -/

namespace Sys2Proof.Proofs.Bus

open Sys2Proof Sys2Proof.Machine

/-! ### The canonical form (log 3) -/

/-- A canonical memory lists exactly the bytes of the address space that do not read as an unlisted address. -/
theorem mem_iff_read {m : Memory} (h : Memory.wf m) (a : Nat) (v : Byte) :
    (a, v) ∈ m ↔ a < 65536 ∧ v ≠ Memory.unlisted ∧ Memory.read m a = v := by
  induction m with
  | nil => simpa [Memory.read] using fun _ ne => Ne.symm ne
  | cons x m ih =>
    obtain ⟨k, w⟩ := x
    obtain ⟨hk, hw⟩ := h.2 (k, w) (List.mem_cons_self ..)
    rw [List.mem_cons, ih (Memory.wf_tail h), Memory.read, Prod.mk.injEq]
    by_cases ka : k = a
    · subst ka
      have tail : Memory.read m k = Memory.unlisted := Memory.read_of_lt (Memory.wf_head_lt h)
      simp only [tail, if_true]
      constructor
      · rintro (⟨-, rfl⟩ | ⟨-, ne, eq⟩)
        · exact ⟨hk, hw, rfl⟩
        · exact absurd eq.symm ne
      · rintro ⟨-, -, rfl⟩
        exact .inl ⟨trivial, rfl⟩
    · simp [ka, Ne.symm ka]

/-- Strictly rising lists with the same members are equal, so a canonical memory is determined by its bytes. -/
theorem eq_of_read_eq {m1 m2 : Memory} (h1 : Memory.wf m1) (h2 : Memory.wf m2)
    (h : ∀ a : Word, Memory.read m1 a.toNat = Memory.read m2 a.toNat) : m1 = m2 := by
  have irrefl : Std.Irrefl fun x y : Host.Cell => x.1 < y.1 := ⟨fun x => Nat.lt_irrefl x.1⟩
  have antisymm : Std.Antisymm fun x y : Host.Cell => x.1 < y.1 :=
    ⟨fun x y hxy hyx => absurd hyx (Nat.lt_asymm hxy)⟩
  refine h1.1.eq_of_mem_iff h2.1 fun ⟨a, v⟩ => ?_
  rw [mem_iff_read h1, mem_iff_read h2]
  refine and_congr_right fun ha => ?_
  have read_eq : Memory.read m1 a = Memory.read m2 a := h (BitVec.ofNatLT a ha)
  rw [read_eq]

/-- Settles O8: the memory after a write is canonical and reads as asked, so it is the only one that does. -/
theorem canonicalMemoriesThatReadAlikeAreEqual : Obligations.CanonicalMemoriesThatReadAlikeAreEqual :=
  ⟨fun _ _ h1 h2 h => eq_of_read_eq h1 h2 h, fun _ a v hm _ hm' h =>
    eq_of_read_eq (Memory.write_word_wf a v hm) hm' fun x => (Memory.read_write_word hm).trans (h x).symm⟩

/-! ### The bytes after a store (R53, R56) -/

theorem ramByte_memWrite1 {s : State} (h : Memory.wf s.mem) (a x : Word) (v : Byte) :
    ramByte (memWrite1 a v s) x = if x = a then v else ramByte s x :=
  Memory.read_write_word h

theorem ramByte_memWrite2 {s : State} (h : Memory.wf s.mem) (a x w : Word) :
    ramByte (memWrite2 a w s) x =
      if x = a + 1#16 then (split w).1 else if x = a then (split w).2 else ramByte s x :=
  (Memory.read_write_word (Memory.write_word_wf a _ h)).trans (if_congr Iff.rfl rfl (Memory.read_write_word h))

/-- Another byte than the one stored to is as before, in any memory. -/
theorem ramByte_memWrite1_of_ne {a x : Word} (ne : x ≠ a) (v : Byte) (s : State) :
    ramByte (memWrite1 a v s) x = ramByte s x :=
  Memory.read_write_other (BitVec.toNat_ne.mp ne)

theorem ramByte_memWrite2_of_ne {a x : Word} (low : x ≠ a) (high : x ≠ a + 1#16) (w : Word) (s : State) :
    ramByte (memWrite2 a w s) x = ramByte s x :=
  (Memory.read_write_other (BitVec.toNat_ne.mp high)).trans (Memory.read_write_other (BitVec.toNat_ne.mp low))

/-! ### The RAM bus (R53, R56) -/

theorem busByte_eq_ramByte {s : State} (hb : s.cfg.bus = .ram) (x : Word) : busByte x s = ramByte s x :=
  busByte_ram hb x

theorem busWord_eq_join {s : State} (hb : s.cfg.bus = .ram) (x : Word) :
    busWord x s = join (busByte (x + 1#16) s) (busByte x s) := by
  rw [busWord_ram hb, busByte_ram hb, busByte_ram hb]

theorem busByte_memWrite1 {s : State} (h : Memory.wf s.mem) (hb : s.cfg.bus = .ram) (a x : Word) (v : Byte) :
    busByte x (memWrite1 a v s) = if x = a then v else busByte x s := by
  rw [busByte_eq_ramByte hb, busByte_eq_ramByte (s := memWrite1 a v s) hb, ramByte_memWrite1 h]

theorem busByte_memWrite2 {s : State} (h : Memory.wf s.mem) (hb : s.cfg.bus = .ram) (a x w : Word) :
    busByte x (memWrite2 a w s) =
      if x = a + 1#16 then (split w).1 else if x = a then (split w).2 else busByte x s := by
  rw [busByte_eq_ramByte hb, busByte_eq_ramByte (s := memWrite2 a w s) hb, ramByte_memWrite2 h]

/-- The two bytes of a word write are at different addresses, so both read back. -/
theorem busWord_memWrite2_same {s : State} (h : Memory.wf s.mem) (hb : s.cfg.bus = .ram) (a w : Word) :
    busWord a (memWrite2 a w s) = w := by
  have ne : a ≠ a + 1#16 := by bv_omega
  rw [busWord_eq_join (s := memWrite2 a w s) hb, busByte_memWrite2 h hb, busByte_memWrite2 h hb, if_pos rfl, if_neg ne,
    if_pos rfl, join_split]

/-- Settles O7, by the rule of each bus operation. -/
theorem ramReadsTheLastByteWritten : Obligations.RamReadsTheLastByteWritten := fun _ a x v w h hb =>
  ⟨busByte_ram hb x, busWord_eq_join hb x, busByte_memWrite1 h hb a x v, busByte_memWrite2 h hb a x w,
    busWord_memWrite2_same h hb a w⟩

/-! ### A store at the next instruction's address (R62) -/

/-- A running CPU whose next opcode is a form's runs that form (R210). -/
theorem step_of_decode {s : State} {f : Form} (hs : s.stopped = none)
    (hd : decodeOpcode (busByte s.pc s) = f.instr) :
    step s = .next (endStep (runForm f (fetchOpcode s).2)) := by
  rw [step_running hs, hd, exec_instr]

/-- LD (HL),r stores r at HL, whose registers the opcode fetch leaves alone (R103, R211). -/
theorem busByte_runForm_ldAtHLReg {s : State} (h : Memory.wf s.mem) (hb : s.cfg.bus = .ram) (r : Opnd) (x : Word) :
    busByte x (runForm (.ldAtHLReg r) (fetchOpcode s).2) =
      if x = readPair .HL s then readReg (opndReg r) s else busByte x (fetchOpcode s).2 := by
  have stored : readOpnd r (fetchOpcode s).2 = readReg (opndReg r) s := by simp [readOpnd, fetchOpcode_snd]
  rw [← stored]
  exact busByte_memWrite1 (s := (fetchOpcode s).2) h hb (readPair .HL s) x _

/-- Settles O56: both stores land in the memory the next fetch reads. -/
theorem fetchSeesEarlierStores : Obligations.FetchSeesEarlierStores := by
  refine ⟨fun s r h hb hs hd hl => ?_, fun s v h hb => ?_⟩
  · have byte : busByte (s.pc + 1#16) (runForm (.ldAtHLReg r) (fetchOpcode s).2) = readReg (opndReg r) s := by
      rw [busByte_runForm_ldAtHLReg h hb, if_pos hl.symm]
    exact ⟨_, step_of_decode hs hd, rfl, byte, byte⟩
  · calc (fetchOpcode (hostPoke s.pc v s)).1
        = ramByte (hostPoke s.pc v s) s.pc := busByte_eq_ramByte (s := hostPoke s.pc v s) hb s.pc
      _ = v := Memory.read_write_same h

/-! ### The bus accesses of an operation, in order (R50, R55, R57) -/

/-- The bus sees no difference between the two states. -/
structure Quiet (s t : State) : Prop where
  mem : t.mem = s.mem
  cfg : t.cfg = s.cfg
  events : t.events = s.events

theorem Quiet.ramByte_eq {s t : State} (q : Quiet s t) : ramByte t = ramByte s := by
  unfold ramByte
  rw [q.mem]

/-- `BusRun s l t`: from `s` to `t` there were bus reads, then stores at the addresses `l` in order, no read after a
store, and between them only updates that the bus does not see. -/
inductive BusRun (s : State) : List Word → State → Prop where
  | start : BusRun s [] s
  | readByte {t : State} (a : Word) : BusRun s [] t → BusRun s [] (memRead1 a t).2
  | readWord {t : State} (a : Word) : BusRun s [] t → BusRun s [] (memRead2 a t).2
  | storeByte {l : List Word} {t : State} (a : Word) (v : Byte) : BusRun s l t → BusRun s (l ++ [a]) (memWrite1 a v t)
  | storeWord {l : List Word} {t : State} (a v : Word) :
      BusRun s l t → BusRun s (l ++ [a, a + 1#16]) (memWrite2 a v t)
  | quiet {l : List Word} {t u : State} : BusRun s l t → Quiet t u → BusRun s l u

section

variable {s t : State} {l : List Word}

/-! #### The primitives around the bus accesses -/

protected theorem BusRun.advancePc (h : BusRun s l t) (k : Word) : BusRun s l (advancePc k t) :=
  h.quiet ⟨rfl, rfl, rfl⟩

protected theorem BusRun.setSp (h : BusRun s l t) (v : Word) : BusRun s l (setSp v t) :=
  h.quiet ⟨rfl, rfl, rfl⟩

protected theorem BusRun.charge (h : BusRun s l t) (m n : Nat) : BusRun s l (charge m n t) :=
  h.quiet ⟨rfl, rfl, rfl⟩

protected theorem BusRun.setFlags (h : BusRun s l t) (z n hc c : Bool) : BusRun s l (setFlags z n hc c t) :=
  h.quiet ⟨rfl, rfl, rfl⟩

protected theorem BusRun.writeReg (h : BusRun s l t) (r : Reg) (v : Byte) : BusRun s l (writeReg r v t) :=
  h.quiet ⟨writeReg_mem r v t, writeReg_cfg r v t, writeReg_events r v t⟩

protected theorem BusRun.writePair (h : BusRun s l t) (p : Pair) (v : Word) : BusRun s l (writePair p v t) :=
  (h.writeReg _ _).writeReg _ _

protected theorem BusRun.writePairBytes (h : BusRun s l t) (order : LdrrOrder) (p : Pair) (b1 b2 : Byte) :
    BusRun s l (writePairBytes order p b1 b2 t) := by
  cases order
  · exact (h.writeReg _ _).writeReg _ _
  · exact (h.writeReg _ _).writeReg _ _

protected theorem BusRun.hlInc (h : BusRun s l t) : BusRun s l (hlInc t) := by
  rw [hlInc_eq]
  exact h.quiet ⟨rfl, rfl, rfl⟩

protected theorem BusRun.hlDec (h : BusRun s l t) : BusRun s l (hlDec t) := by
  rw [hlDec_eq]
  exact h.quiet ⟨rfl, rfl, rfl⟩

protected theorem BusRun.fetch8 (h : BusRun s [] t) : BusRun s [] (fetch8 t).2 := (h.readByte _).advancePc _

protected theorem BusRun.fetch16 (h : BusRun s [] t) : BusRun s [] (fetch16 t).2 := (h.readWord _).advancePc _

/-! #### The shared operations -/

protected theorem BusRun.loadRegAt (h : BusRun s [] t) (d : Opnd) (a : Word) : BusRun s [] (loadRegAt d a t) :=
  ((h.readByte a).writeReg _ _).charge _ _

protected theorem BusRun.storeRegAt (h : BusRun s [] t) (r : Opnd) (a : Word) : BusRun s [a] (storeRegAt r a t) :=
  (h.storeByte a _).charge _ _

protected theorem BusRun.popPair (h : BusRun s [] t) (p : Pair) : BusRun s [] (popPair p t) :=
  have low := ((h.readByte t.sp).setSp (t.sp + 1#16)).writeReg (pairLo p) _
  (((low.readByte _).setSp _).writeReg _ _).charge _ _

protected theorem BusRun.pushPair (h : BusRun s [] t) (p : Pair) :
    BusRun s [t.sp - 1#16, t.sp - 2#16] (pushPair p t) := by
  have twice : t.sp - 2#16 = t.sp - 1#16 - 1#16 := by bv_omega
  rw [twice]
  exact ((((h.setSp (t.sp - 1#16)).storeByte _ _).setSp (t.sp - 1#16 - 1#16)).storeByte _ _).charge _ _

protected theorem BusRun.aluInstr (h : BusRun s [] t) (op : AluOp) (src : AluSrc) :
    BusRun s [] (aluInstr op src t) := by
  have operand : BusRun s [] (aluOperand src t).2.2 := by
    cases src
    case reg => exact h
    case atHL => exact h.readByte _
    case imm => exact h.fetch8
  exact ((operand.writeReg _ _).setFlags _ _ _ _).charge _ _

/-! #### Every form -/

/-- What every form's operation does on the bus: it stores at the form's stored addresses, after its reads (R55). -/
theorem runForm_busRun (h : BusRun s [] t) (f : Form) : BusRun s (storedAddrs f t) (runForm f t) := by
  cases f
  case ldRegReg => exact (h.writeReg _ _).charge _ _
  case ldRegImm => exact (h.fetch8.writeReg _ _).charge _ _
  case ldRegAtHL | ldAAtBC | ldAAtDE | ldAHighC => exact h.loadRegAt _ _
  case ldAtHLReg | ldAtBCA | ldAtDEA | ldHighCA => exact h.storeRegAt _ _
  case ldAtHLImm => exact (h.fetch8.storeByte _ _).charge _ _
  case ldAAbs => exact ((h.fetch16.readByte _).writeReg _ _).charge _ _
  case ldAbsA => exact (h.fetch16.storeByte _ _).charge _ _
  case ldiAtHLA => exact (h.storeByte _ _).hlInc.charge _ _
  case lddAtHLA => exact (h.storeByte _ _).hlDec.charge _ _
  case ldiAAtHL => exact ((h.readByte _).writeReg _ _).hlInc.charge _ _
  case lddAAtHL => exact ((h.readByte _).writeReg _ _).hlDec.charge _ _
  case ldhAtNA =>
    cases ea : t.cfg.ldhEa <;> simp only [runForm, storedAddrs, storeAHigh, ea]
    · exact ((h.storeByte _ _).advancePc _).charge _ _
    · exact (h.fetch8.storeByte _ _).charge _ _
  case ldhAAtN =>
    cases ea : t.cfg.ldhEa <;> simp only [runForm, storedAddrs, loadAHigh, ea]
    · exact (((h.readByte _).writeReg _ _).advancePc _).charge _ _
    · exact ((h.fetch8.readByte _).writeReg _ _).charge _ _
  case ldPairImm => exact (((h.readByte _).readByte _).advancePc _ |>.writePairBytes _ _ _ _).charge _ _
  case ldSpImm => exact (h.fetch16.setSp _).charge _ _
  case ldSpHL => exact (h.setSp _).charge _ _
  case ldAbsSp => exact (h.fetch16.storeWord _ _).charge _ _
  case ldhlSp => exact ((h.fetch8.writePair _ _).setFlags _ _ _ _).charge _ _
  case push p => exact h.pushPair p
  case pop p => exact h.popPair (mainPair p)
  case popAF => exact h.popPair .AF
  case alu op src => exact h.aluInstr op src
  case nop | halt | di | ei => exact h.charge 1 4

/-- A whole step on the bus, which starts with no event recorded (R210, R216). -/
theorem step_busRun (h : step s = .next t) : ∃ l, BusRun (beginStep s) l t := by
  obtain ⟨-, f, -, rfl⟩ := step_next h
  have opcodeRead : BusRun (beginStep s) [] (fetchOpcode s).2 := BusRun.start.fetch8
  exact ⟨_, (runForm_busRun opcodeRead f).quiet ⟨rfl, rfl, rfl⟩⟩

/-! ### What a sequence of bus accesses leaves unchanged -/

theorem BusRun.cfg_eq (h : BusRun s l t) : t.cfg = s.cfg := by
  induction h with
  | start => rfl
  | readByte _ _ ih | readWord _ _ ih | storeByte _ _ _ ih | storeWord _ _ _ ih => exact ih
  | quiet _ q ih => exact q.cfg.trans ih

/-- A byte that is not stored to reads as before, on any bus and in any memory. -/
theorem BusRun.ramByte_of_notMem (h : BusRun s l t) {x : Word} (hx : x ∉ l) : ramByte t x = ramByte s x := by
  induction h with
  | start => rfl
  | readByte _ _ ih | readWord _ _ ih => exact ih hx
  | storeByte a v _ ih =>
    simp only [List.mem_append, List.mem_singleton, not_or] at hx
    exact (ramByte_memWrite1_of_ne hx.2 v _).trans (ih hx.1)
  | storeWord a v _ ih =>
    simp only [List.mem_append, List.mem_cons, List.not_mem_nil, or_false, not_or] at hx
    obtain ⟨hl, low, high⟩ := hx
    exact (ramByte_memWrite2_of_ne low high v _).trans (ih hl)
  | quiet _ q ih => exact (congrFun q.ramByte_eq x).trans (ih hx)

/-- Where nothing is stored, memory is as it was. -/
theorem BusRun.mem_eq (h : BusRun s [] t) : t.mem = s.mem := by
  generalize hl : [] = l at h
  induction h with
  | start => rfl
  | readByte _ _ ih | readWord _ _ ih => exact ih hl
  | storeByte | storeWord => simp at hl
  | quiet _ q ih => exact q.mem.trans (ih hl)

/-! ### What the bus events say (R56, R57, R64) -/

/-- On the RAM bus a read is answered with the RAM's byte at the start, since nothing is stored before it. -/
theorem BusRun.busByte_eq (h : BusRun s [] t) (hb : s.cfg.bus = .ram) (a : Word) : busByte a t = ramByte s a := by
  rw [busByte_eq_ramByte (h.cfg_eq ▸ hb), ramByte, h.mem_eq, ramByte]

theorem BusRun.busWord_eq (h : BusRun s [] t) (hb : s.cfg.bus = .ram) (a : Word) :
    busWord a t = join (ramByte s (a + 1#16)) (ramByte s a) := by
  rw [busWord_eq_join (h.cfg_eq ▸ hb), h.busByte_eq hb, h.busByte_eq hb]

/-- The stores keep memory's canonical form (log 3). -/
theorem BusRun.memWf (h : BusRun s l t) (hm : Memory.wf s.mem) : Memory.wf t.mem := by
  induction h with
  | start => exact hm
  | readByte _ _ ih | readWord _ _ ih => exact ih
  | storeByte a v _ ih => exact Memory.write_word_wf a v ih
  | storeWord a v _ ih => exact Memory.write_word_wf _ _ (Memory.write_word_wf a _ ih)
  | quiet _ q ih => exact q.mem ▸ ih

/-- The recorded events, done in order on the bytes at the start, give the bytes at the end. -/
theorem BusRun.ramByte_eq_foldl (h : BusRun s l t) (hm : Memory.wf s.mem) (he : s.events = []) :
    ramByte t = t.events.foldl (fun ram ev => ev.update ram) (ramByte s) := by
  induction h with
  | start => rw [he, List.foldl_nil]
  | readByte _ _ ih | readWord _ _ ih =>
    simp only [memRead1_snd, memRead2_snd, noteRead_events, List.foldl_append, ← ih]
    rfl
  | storeByte a v h ih =>
    rw [memWrite1_events, List.foldl_append, ← ih]
    exact funext fun x => ramByte_memWrite1 (h.memWf hm) a x v
  | storeWord a v h ih =>
    rw [memWrite2_events, List.foldl_append, ← ih]
    exact funext fun x => ramByte_memWrite2 (h.memWf hm) a x v
  | quiet _ q ih => rw [q.events, q.ramByte_eq, ih]

/-- On the RAM bus every recorded read carries the RAM's answer at the start. -/
theorem BusRun.events_answered (h : BusRun s l t) (hb : s.cfg.bus = .ram) (he : s.events = []) :
    ∀ ev ∈ t.events, ev.answeredBy (ramByte s) := by
  induction h with
  | start => simp [he]
  | readByte a h ih => simpa [or_imp, forall_and, BusEvent.answeredBy, h.busByte_eq hb] using ih
  | readWord a h ih => simpa [or_imp, forall_and, BusEvent.answeredBy, h.busWord_eq hb, join] using ih
  | storeByte _ _ _ ih | storeWord _ _ _ ih => simpa [or_imp, forall_and, BusEvent.answeredBy] using ih
  | quiet _ q ih => exact q.events ▸ ih

/-- While nothing is stored, every recorded event is a read. -/
theorem BusRun.events_read (h : BusRun s [] t) (he : s.events = []) : ∀ ev ∈ t.events, ev.readAddrs ≠ [] := by
  generalize hl : [] = l at h
  induction h with
  | start => simp [he]
  | readByte _ _ ih | readWord _ _ ih => simpa [or_imp, forall_and, BusEvent.readAddrs] using ih hl
  | storeByte | storeWord => simp at hl
  | quiet _ q ih => exact q.events ▸ ih hl

/-- Once a write is recorded, only writes are (R57). -/
theorem BusRun.events_pairwise (h : BusRun s l t) (he : s.events = []) :
    t.events.Pairwise fun e1 e2 => e1.readAddrs = [] → e2.readAddrs = [] := by
  induction h with
  | start => simp [he]
  | readByte _ h ih | readWord _ h ih =>
    exact List.pairwise_append.mpr
      ⟨ih, List.pairwise_singleton _ _, fun e1 h1 _ _ write => absurd write (h.events_read he e1 h1)⟩
  | storeByte _ _ _ ih | storeWord _ _ _ ih => simpa [List.pairwise_append, BusEvent.readAddrs] using ih
  | quiet _ q ih => exact q.events ▸ ih

end

/-! ### Memory and the events of every form and step -/

/-- Settles O53, from what each form does on the bus. -/
theorem memoryFrameOfEveryForm : Obligations.MemoryFrameOfEveryForm := fun f s =>
  have run : BusRun s (storedAddrs f s) (runForm f s) := runForm_busRun .start f
  ⟨runForm f s, exec_instr f s, fun _ ha => run.ramByte_of_notMem ha, fun empty => (empty ▸ run).mem_eq⟩

/-- Settles O54: a step is a sequence of bus accesses from a state with no event recorded. -/
theorem eventsAccountForMemory : Obligations.EventsAccountForMemory := by
  intro s t hm hb hstep
  obtain ⟨l, run⟩ := step_busRun hstep
  exact ⟨congrFun (run.ramByte_eq_foldl hm rfl), run.events_answered hb rfl, run.events_pairwise rfl⟩

end Sys2Proof.Proofs.Bus
end

section
/-! The encoding: the opcode map inverts the bit patterns, and byte streams decode to what encodes to them
(30_encoding.md). -/

namespace Sys2Proof.Proofs.Encoding

open Sys2Proof Sys2Proof.Machine

/-! ### The encoder and the lengths, by the table entry (R70, R73, R78) -/

theorem opcodeOf_of_impl {i : Instr} {f : Form} (h : i.entry = .impl f) : opcodeOf i = f.opcode := by
  rw [opcodeOf, h]

theorem opcodeOf_of_fatal {i : Instr} {k : FaultKind} {op : Byte} (h : i.entry = .fatal k op) : opcodeOf i = op := by
  rw [opcodeOf, h]

@[simp] theorem opcodeOf_instr (f : Form) : opcodeOf f.instr = f.opcode := opcodeOf_of_impl (entry_instr f)

@[simp] theorem immCount_instr (f : Form) : f.instr.immCount = f.immCount := by
  rw [Instr.immCount, entry_instr]

/-- A form advances pc past its opcode and its immediates (R70, R218). -/
theorem immCount_add_one_eq_advance (f : Form) : f.immCount + 1 = f.advance := by
  cases f
  case alu op src => cases src <;> rfl
  all_goals rfl

theorem length_instr (f : Form) : f.instr.length = f.advance := by
  rw [Instr.length, immCount_instr, immCount_add_one_eq_advance]

/-! ### The opcode map and the encoder invert each other (R73, R75) -/

@[simp] theorem decodeOpcode_opcodeOf (i : Instr) : decodeOpcode (opcodeOf i) = i := by
  cases i <;> rfl

@[simp] theorem opcodeOf_decodeOpcode (op : Byte) : opcodeOf (decodeOpcode op) = op := by
  revert op
  decide

/-- The map holds each form's instruction at the form's bit pattern. -/
@[simp] theorem decodeOpcode_opcode (f : Form) : decodeOpcode f.opcode = f.instr := by
  rw [← opcodeOf_instr, decodeOpcode_opcodeOf]

/-! ### The fatal bytes (R232) -/

theorem mem_fatalBytes_of_entry {i : Instr} {k : FaultKind} {op : Byte} (h : i.entry = .fatal k op) :
    op ∈ fatalBytes k := by
  cases i <;> cases h <;> decide

theorem entry_eq_fatal_iff (k : FaultKind) (op : Byte) :
    (decodeOpcode op).entry = .fatal k op ↔ op ∈ fatalBytes k :=
  ⟨mem_fatalBytes_of_entry, entry_of_fatalBytes⟩

/-- The entry of a byte's instruction names that byte: a form at its pattern, or a fault with the byte. -/
theorem entry_decodeOpcode (op : Byte) :
    (∃ f : Form, (decodeOpcode op).entry = .impl f ∧ f.opcode = op ∧ f.instr = decodeOpcode op) ∨
      ∃ k : FaultKind, (decodeOpcode op).entry = .fatal k op := by
  have encodes : opcodeOf (decodeOpcode op) = op := opcodeOf_decodeOpcode op
  cases he : (decodeOpcode op).entry with
  | impl f => exact .inl ⟨f, rfl, (opcodeOf_of_impl he).symm.trans encodes, instr_of_entry he⟩
  | fatal k byte =>
    obtain rfl : byte = op := (opcodeOf_of_fatal he).symm.trans encodes
    exact .inr ⟨k, rfl⟩

/-- Settles O11: the encoder inverts the map, so a byte's table entry carries that byte. -/
theorem everyByteIsImplementedOrFatal : Obligations.EveryByteIsImplementedOrFatal := fun op =>
  ⟨opcodeOf_decodeOpcode op, entry_decodeOpcode op, fun k => entry_eq_fatal_iff k op⟩

/-! ### Byte streams (R70, R78) -/

theorem wf_iff (code : Code) : code.wf = true ↔ code.imm.length = code.instr.immCount := by
  rw [Code.wf, beq_iff_eq]

theorem decode_opcodeOf_cons (i : Instr) (more : List Byte) :
    decode (opcodeOf i :: more) =
      if more.length < i.immCount then .refused (.truncated i)
      else .ok ⟨i, more.take i.immCount⟩ (more.drop i.immCount) := by
  simp only [decode, decodeOpcode_opcodeOf]

/-- Settles O12: the opcode byte gives the instruction back, and its immediate count is where the immediates end. -/
theorem decodeInvertsEncode : Obligations.DecodeInvertsEncode := by
  rintro ⟨i, imm⟩ rest hwf
  have count : imm.length = i.immCount := (wf_iff _).mp hwf
  have enough : ¬ (imm ++ rest).length < i.immCount := by simp [count]
  rw [encode, List.cons_append, decode_opcodeOf_cons, if_neg enough, List.take_left' count, List.drop_left' count]

/-- Every byte stream is empty, an opcode whose immediates are cut off, or starts with a well-formed instruction; and
what `decode` answers for each. -/
theorem decode_cases (bytes : List Byte) :
    (bytes = [] ∧ decode bytes = .refused .noByte) ∨
    (∃ op more, bytes = op :: more ∧ more.length < (decodeOpcode op).immCount ∧
      decode bytes = .refused (.truncated (decodeOpcode op))) ∨
    ∃ code rest, code.wf = true ∧ encode code ++ rest = bytes ∧ decode bytes = .ok code rest := by
  cases bytes with
  | nil => exact .inl ⟨rfl, rfl⟩
  | cons op more =>
    right
    rcases Nat.lt_or_ge more.length (decodeOpcode op).immCount with short | enough
    · exact .inl ⟨op, more, rfl, short, if_pos short⟩
    · have wf : Code.wf ⟨decodeOpcode op, more.take (decodeOpcode op).immCount⟩ = true := by simp [wf_iff, enough]
      exact .inr ⟨_, more.drop (decodeOpcode op).immCount, wf, by simp [encode], if_neg (Nat.not_lt.mpr enough)⟩

/-- Settles O13: each answer of `decode` is given in one of the cases only. -/
theorem encodeInvertsDecode : Obligations.EncodeInvertsDecode := by
  refine ⟨fun bytes code rest h => ?_, fun bytes why h => ?_⟩
  · obtain ⟨-, answer⟩ | ⟨_, _, -, -, answer⟩ | ⟨_, _, wf, enc, answer⟩ := decode_cases bytes
    · cases h.symm.trans answer
    · cases h.symm.trans answer
    · cases h.symm.trans answer
      exact ⟨wf, enc⟩
  · obtain ⟨nil, answer⟩ | ⟨op, more, cons, short, answer⟩ | ⟨_, _, -, -, answer⟩ := decode_cases bytes
    · cases h.symm.trans answer
      exact .inl ⟨nil, rfl⟩
    · cases h.symm.trans answer
      exact .inr ⟨op, more, cons, rfl, short⟩
    · cases h.symm.trans answer

/-! ### Bit patterns with the field codes added in (R71-R73)

The fields of a pattern do not overlap, so adding the codes at their places is OR-ing them in. -/

theorem decodeOpcode_of_eq_opcode {op : Byte} {f : Form} (h : op = f.opcode) : decodeOpcode op = f.instr := by
  rw [h, decodeOpcode_opcode]

theorem decodeOpcode_ldRegReg (d r : Opnd) :
    decodeOpcode (0b01000000#8 + (8#8 * opndCode d + opndCode r)) = (Form.ldRegReg d r).instr :=
  decodeOpcode_of_eq_opcode (by cases d <;> cases r <;> rfl)

theorem decodeOpcode_ldRegImm (d : Opnd) :
    decodeOpcode (0b00000110#8 + 8#8 * opndCode d) = (Form.ldRegImm d).instr :=
  decodeOpcode_of_eq_opcode (by cases d <;> rfl)

theorem decodeOpcode_ldRegAtHL (d : Opnd) :
    decodeOpcode (0b01000110#8 + 8#8 * opndCode d) = (Form.ldRegAtHL d).instr :=
  decodeOpcode_of_eq_opcode (by cases d <;> rfl)

theorem decodeOpcode_ldAtHLReg (r : Opnd) :
    decodeOpcode (0b01110000#8 + opndCode r) = (Form.ldAtHLReg r).instr :=
  decodeOpcode_of_eq_opcode (by cases r <;> rfl)

theorem decodeOpcode_ldPairImm (p : MainPair) :
    decodeOpcode (0b00000001#8 + 16#8 * mainPairCode p) = (Form.ldPairImm p).instr :=
  decodeOpcode_of_eq_opcode (by cases p <;> rfl)

theorem decodeOpcode_push (p : Pair) :
    decodeOpcode (0b11000101#8 + 16#8 * pairCode p) = (Form.push p).instr :=
  decodeOpcode_of_eq_opcode (by cases p <;> rfl)

theorem decodeOpcode_pop (p : MainPair) :
    decodeOpcode (0b11000001#8 + 16#8 * mainPairCode p) = (Form.pop p).instr :=
  decodeOpcode_of_eq_opcode (by cases p <;> rfl)

theorem decodeOpcode_alu_reg (op : AluOp) (r : Opnd) :
    decodeOpcode (0b10000000#8 + (8#8 * aluCode op + opndCode r)) = (Form.alu op (.reg r)).instr :=
  decodeOpcode_of_eq_opcode (by cases op <;> cases r <;> rfl)

theorem decodeOpcode_alu_atHL (op : AluOp) :
    decodeOpcode (0b10000110#8 + 8#8 * aluCode op) = (Form.alu op .atHL).instr :=
  decodeOpcode_of_eq_opcode (by cases op <;> rfl)

theorem decodeOpcode_alu_imm (op : AluOp) :
    decodeOpcode (0b11000110#8 + 8#8 * aluCode op) = (Form.alu op .imm).instr :=
  decodeOpcode_of_eq_opcode (by cases op <;> rfl)

/-- Settles O10: the pattern of each row of R73, then the three facts of every form. -/
theorem formsSitAtTheirBitPatterns : Obligations.FormsSitAtTheirBitPatterns :=
  ⟨decodeOpcode_ldRegReg, decodeOpcode_ldRegImm, decodeOpcode_ldRegAtHL, decodeOpcode_ldAtHLReg,
    decodeOpcode_ldPairImm, decodeOpcode_push, decodeOpcode_pop, decodeOpcode_alu_reg, decodeOpcode_alu_atHL,
    decodeOpcode_alu_imm, fun f => ⟨decodeOpcode_opcode f, entry_instr f, length_instr f⟩⟩

/-- Settles O9: each sample byte is the bit pattern of a form, or of a fatal instruction. -/
theorem sampleWordsDecode : Obligations.SampleWordsDecode :=
  ⟨decodeOpcode_opcode (.ldRegReg .B .C), decodeOpcode_opcode (.ldRegReg .A .B), decodeOpcode_opcode (.ldRegImm .A),
    decodeOpcode_opcode (.ldAtHLReg .L), decodeOpcode_opcode .ldAtHLImm, decodeOpcode_opcode (.ldPairImm .HL),
    decodeOpcode_opcode .ldAbsSp, decodeOpcode_opcode .ldhlSp, decodeOpcode_opcode (.push .BC),
    decodeOpcode_opcode (.pop .DE), decodeOpcode_opcode .popAF, decodeOpcode_opcode (.alu .add (.reg .B)),
    decodeOpcode_opcode (.alu .sub (.reg .A)), decodeOpcode_opcode (.alu .and .imm),
    decodeOpcode_opcode (.alu .xor .atHL), decodeOpcode_opcode .halt, decodeOpcode_opcodeOf .cbPrefix,
    decodeOpcode_opcodeOf .noneD3⟩

end Sys2Proof.Proofs.Encoding
end

section
/-! The 8-bit loads: what each operation does to the whole state, and HL's byte-wise step (41_load8.md). -/

namespace Sys2Proof.Proofs.Load8

open Sys2Proof Sys2Proof.Machine Sys2Proof.Proofs.Encoding

/-! ### The steps of HL (R113) -/

/-- A pair's low byte plus 1, its carry added to the high byte, is the pair plus 1. -/
theorem join_add_one (h l : Byte) :
    join (if l + 1#8 = 0x00#8 then h + 1#8 else h) (l + 1#8) = join h l + 1#16 := by
  apply BitVec.eq_of_toNat_eq
  rw [BitVec.toNat_add, join_toNat, join_toNat]
  split <;> bv_omega

/-- A pair's low byte minus 1, its borrow taken from the high byte, is the pair minus 1. -/
theorem join_sub_one (h l : Byte) :
    join (if l - 1#8 = 0xFF#8 then h - 1#8 else h) (l - 1#8) = join h l - 1#16 := by
  apply BitVec.eq_of_toNat_eq
  rw [BitVec.toNat_sub, join_toNat, join_toNat]
  split <;> bv_omega

theorem readPair_HL_hlInc (s : State) : readPair .HL (hlInc s) = readPair .HL s + 1#16 := by
  rw [hlInc_eq]
  exact join_add_one s.h s.l

theorem readPair_HL_hlDec (s : State) : readPair .HL (hlDec s) = readPair .HL s - 1#16 := by
  rw [hlDec_eq]
  exact join_sub_one s.h s.l

/-- Settles O23: the carry and the borrow between the bytes of HL are those of the 16-bit step. -/
theorem hlStepsAreSixteenBitSteps : Obligations.HLStepsAreSixteenBitSteps := fun s =>
  ⟨hlInc_eq s, hlDec_eq s, readPair_HL_hlInc s, readPair_HL_hlDec s⟩

/-! ### The shared operations, on the whole state -/

theorem exec_instr_of_runForm {s t : State} (f : Form) (h : runForm f s = t) : exec f.instr s = .next t := by
  rw [exec_instr, h]

theorem writeReg_readReg_self (o : Opnd) (s : State) : writeReg (opndReg o) (readReg (opndReg o) s) s = s := by
  cases o <;> rfl

theorem loadRegReg_eq (d r : Opnd) (s : State) :
    loadRegReg d r s = { writeReg (opndReg d) (readReg (opndReg r) s) s with last := counters s 1 4 } := by
  cases d <;> rfl

theorem loadRegImm_eq (d : Opnd) (s : State) :
    loadRegImm d s = { writeReg (opndReg d) (busByte s.pc s) s with
      pc := s.pc + 1#16, last := counters s 2 8,
      events := s.events ++ [.read1 s.pc (busByte s.pc s)], busReads := s.busReads + 1 } := by
  cases d <;> rfl

theorem loadRegAt_eq (d : Opnd) (addr : Word) (s : State) :
    loadRegAt d addr s = { writeReg (opndReg d) (busByte addr s) s with
      last := counters s 2 8, events := s.events ++ [.read1 addr (busByte addr s)], busReads := s.busReads + 1 } := by
  cases d <;> rfl

theorem storeRegAt_eq (r : Opnd) (addr : Word) (s : State) :
    storeRegAt r addr s = { s with
      mem := Memory.write s.mem addr.toNat (readReg (opndReg r) s), last := counters s 2 8,
      events := s.events ++ [.write1 addr (readReg (opndReg r) s)] } := rfl

/-! ### Loads and stores of an operand register (R100-R108) -/

/-- Settles O14: a register that gets its own value back is unchanged. -/
theorem ldRegRegCopiesARegister : Obligations.LdRegRegCopiesARegister := by
  intro d r s
  have copies := exec_instr_of_runForm (.ldRegReg d r) (loadRegReg_eq d r s)
  refine ⟨decodeOpcode_ldRegReg d r, copies, ?_⟩
  rintro rfl
  rw [copies, writeReg_readReg_self]

/-- Settles O15: the immediate is the byte fetched at pc. -/
theorem ldRegImmLoadsTheImmediate : Obligations.LdRegImmLoadsTheImmediate := fun d s =>
  ⟨decodeOpcode_ldRegImm d, exec_instr_of_runForm (.ldRegImm d) (loadRegImm_eq d s)⟩

/-- Settles O16: the address is formed before the write. -/
theorem ldRegAtHLLoadsTheByteAtHL : Obligations.LdRegAtHLLoadsTheByteAtHL := fun d s =>
  ⟨decodeOpcode_ldRegAtHL d, exec_instr_of_runForm (.ldRegAtHL d) (loadRegAt_eq d (readPair .HL s) s)⟩

/-- Settles O17, by the store's rule at HL. -/
theorem ldAtHLRegStoresARegister : Obligations.LdAtHLRegStoresARegister := fun r s =>
  ⟨decodeOpcode_ldAtHLReg r, exec_instr_of_runForm (.ldAtHLReg r) (storeRegAt_eq r (readPair .HL s) s)⟩

/-- Settles O18: the fetch's read event comes first, and the fetch leaves HL alone. -/
theorem ldAtHLImmStoresTheImmediate : Obligations.LdAtHLImmStoresTheImmediate := by
  refine fun s => ⟨decodeOpcode_opcode .ldAtHLImm, exec_instr_of_runForm .ldAtHLImm ?_⟩
  rw [List.append_cons _ _ [_]]
  rfl

/-- Settles O19, by the load's rule at BC and DE. -/
theorem ldAAtBCAndDELoadTheByte : Obligations.LdAAtBCAndDELoadTheByte :=
  ⟨decodeOpcode_opcode .ldAAtBC, decodeOpcode_opcode .ldAAtDE, fun s =>
    ⟨exec_instr_of_runForm .ldAAtBC (loadRegAt_eq .A (readPair .BC s) s),
      exec_instr_of_runForm .ldAAtDE (loadRegAt_eq .A (readPair .DE s) s)⟩⟩

/-- Settles O20, by the store's rule at BC and DE. -/
theorem ldAtBCAndDEStoreA : Obligations.LdAtBCAndDEStoreA :=
  ⟨decodeOpcode_opcode .ldAtBCA, decodeOpcode_opcode .ldAtDEA, fun s =>
    ⟨exec_instr_of_runForm .ldAtBCA (storeRegAt_eq .A (readPair .BC s) s),
      exec_instr_of_runForm .ldAtDEA (storeRegAt_eq .A (readPair .DE s) s)⟩⟩

/-! ### Absolute and high-page addresses (R109-R112) -/

/-- Settles O21: the word read comes first, and the data access is made in the state it leaves. -/
theorem absoluteLoadAndStoreOfA : Obligations.AbsoluteLoadAndStoreOfA := by
  refine ⟨decodeOpcode_opcode .ldAAbs, decodeOpcode_opcode .ldAbsA, fun s =>
    ⟨exec_instr_of_runForm .ldAAbs ?_, exec_instr_of_runForm .ldAbsA ?_⟩⟩
  · rw [List.append_cons _ _ [_]]
    rfl
  · rw [List.append_cons _ _ [_]]
    rfl

theorem le_toNat_highPage (n : Byte) : 0xFF00 ≤ (highPage n).toNat := by
  rw [highPage, BitVec.toNat_or]
  exact Nat.left_le_or

/-- Settles O22, by the load's and the store's rules at the high-page address of C. -/
theorem highPageLoadAndStoreThroughC : Obligations.HighPageLoadAndStoreThroughC :=
  ⟨decodeOpcode_opcode .ldAHighC, decodeOpcode_opcode .ldHighCA, fun s =>
    ⟨le_toNat_highPage s.c, exec_instr_of_runForm .ldAHighC (loadRegAt_eq .A (highPage s.c) s),
      exec_instr_of_runForm .ldHighCA (storeRegAt_eq .A (highPage s.c) s)⟩⟩

/-! ### LDI and LDD (R114-R117) -/

theorem charge_hlInc (m t : Nat) (s : State) :
    charge m t (hlInc s) = { s with
      l := s.l + 1#8, h := if s.l + 1#8 = 0x00#8 then s.h + 1#8 else s.h, last := counters s m t } := by
  rw [hlInc_eq]
  rfl

theorem charge_hlDec (m t : Nat) (s : State) :
    charge m t (hlDec s) = { s with
      l := s.l - 1#8, h := if s.l - 1#8 = 0xFF#8 then s.h - 1#8 else s.h, last := counters s m t } := by
  rw [hlDec_eq]
  rfl

/-- Settles O24: HL is stepped in the state the transfer leaves, which has the old H and L. -/
theorem ldiAndLddTransferThenStepHL : Obligations.LdiAndLddTransferThenStepHL :=
  ⟨decodeOpcode_opcode .ldiAtHLA, decodeOpcode_opcode .ldiAAtHL, decodeOpcode_opcode .lddAtHLA,
    decodeOpcode_opcode .lddAAtHL, fun _ =>
      ⟨exec_instr_of_runForm .ldiAtHLA (charge_hlInc 2 8 _), exec_instr_of_runForm .ldiAAtHL (charge_hlInc 2 8 _),
        exec_instr_of_runForm .lddAtHLA (charge_hlDec 2 8 _), exec_instr_of_runForm .lddAAtHL (charge_hlDec 2 8 _)⟩⟩

/-! ### LDH (R118, R119) -/

section

variable {s : State}

theorem storeAHigh_of_pcPage (ea : s.cfg.ldhEa = .pcPage) :
    storeAHigh s = charge 3 12 (advancePc 1#16 (memWrite1 (pcPageAddr s) (readReg .A s) s)) := by
  simp only [storeAHigh, ea]

theorem loadAHigh_of_pcPage (ea : s.cfg.ldhEa = .pcPage) :
    loadAHigh s =
      let v := memRead1 (pcPageAddr s) s
      charge 3 12 (advancePc 1#16 (writeReg .A v.1 v.2)) := by
  simp only [loadAHigh, ea]

theorem storeAHigh_of_immOffset (ea : s.cfg.ldhEa = .immOffset) :
    storeAHigh s =
      let n := fetch8 s
      charge 3 12 (memWrite1 (highPage n.1) (readReg .A n.2) n.2) := by
  simp only [storeAHigh, ea]

theorem loadAHigh_of_immOffset (ea : s.cfg.ldhEa = .immOffset) :
    loadAHigh s =
      let n := fetch8 s
      let v := memRead1 (highPage n.1) n.2
      charge 3 12 (writeReg .A v.1 v.2) := by
  simp only [loadAHigh, ea]

end

/-- Settles O25: under `PC_PAGE` byte 1 is skipped, under `IMM_OFFSET` it is fetched before the access. -/
theorem ldhUnderBothAddressingParameters : Obligations.LdhUnderBothAddressingParameters := by
  refine ⟨decodeOpcode_opcode .ldhAtNA, decodeOpcode_opcode .ldhAAtN, fun s => ⟨fun ea => ?_, fun ea => ?_⟩⟩
  · exact ⟨exec_instr_of_runForm .ldhAtNA (storeAHigh_of_pcPage ea),
      exec_instr_of_runForm .ldhAAtN (loadAHigh_of_pcPage ea)⟩
  · refine ⟨exec_instr_of_runForm .ldhAtNA ((storeAHigh_of_immOffset ea).trans ?_),
      exec_instr_of_runForm .ldhAAtN ((loadAHigh_of_immOffset ea).trans ?_)⟩
    · rw [List.append_cons _ _ [_]]
      rfl
    · rw [List.append_cons _ _ [_]]
      rfl

end Sys2Proof.Proofs.Load8
end

section
/-! The 16-bit loads: what each operation does to the whole state, and the carries of LDHL (42_load16.md). -/

namespace Sys2Proof.Proofs.Load16

open Sys2Proof Sys2Proof.Machine Sys2Proof.Proofs.Encoding Sys2Proof.Proofs.Load8

/-! ### LD BC/DE/HL,nn (R130) -/

theorem writePairBytes_highFirst (p : Pair) (b1 b2 : Byte) (s : State) :
    writePairBytes .highFirst p b1 b2 s = writePair p (join b1 b2) s := by
  rw [writePair, split_join]
  rfl

/-- The two registers of a pair differ, so their writes commute. -/
theorem writePairBytes_lowFirst (p : Pair) (b1 b2 : Byte) (s : State) :
    writePairBytes .lowFirst p b1 b2 s = writePair p (join b2 b1) s := by
  rw [writePair, split_join]
  cases p <;> rfl

theorem charge_writePairBytes (m t : Nat) (order : LdrrOrder) (p : Pair) (b1 b2 : Byte) (s : State) :
    charge m t (writePairBytes order p b1 b2 s) = writePairBytes order p b1 b2 (charge m t s) := by
  cases order <;> cases p <;> rfl

/-- The second byte is the bus's answer after the first read, which a free bus may tell apart (log 2). -/
theorem loadPairImm_eq (p : MainPair) (s : State) :
    let b1 := busByte s.pc s
    let b2 := busByte (s.pc + 1#16) (noteRead (.read1 s.pc b1) s)
    loadPairImm p s = writePairBytes s.cfg.ldrrOrder (mainPair p) b1 b2 { s with
      pc := s.pc + 2#16, last := counters s 3 12,
      events := s.events ++ [.read1 s.pc b1, .read1 (s.pc + 1#16) b2], busReads := s.busReads + 2 } := by
  intro b1 b2
  rw [loadPairImm, charge_writePairBytes, List.append_cons _ _ [_]]
  rfl

/-- Settles O26: the byte order of the parameter decides which of the two bytes read is the pair's high one. -/
theorem ldPairImmUnderBothByteOrders : Obligations.LdPairImmUnderBothByteOrders := by
  refine fun p s => ⟨decodeOpcode_ldPairImm p, fun order => ?_, fun order => ?_⟩
  · refine exec_instr_of_runForm (.ldPairImm p) ((loadPairImm_eq p s).trans ?_)
    rw [order]
    exact writePairBytes_highFirst ..
  · refine exec_instr_of_runForm (.ldPairImm p) ((loadPairImm_eq p s).trans ?_)
    rw [order]
    exact writePairBytes_lowFirst ..

/-! ### LD SP,nn, LD SP,HL and LD (nn),SP (R131-R133) -/

theorem loadSpImm_eq (s : State) :
    loadSpImm s = { s with
      sp := busWord s.pc s, pc := s.pc + 2#16, last := counters s 3 12,
      events := s.events ++ [.read2 s.pc (busWord s.pc s)], busReads := s.busReads + 1 } := rfl

theorem loadSpHL_eq (s : State) :
    loadSpHL s = { s with sp := readPair .HL s, last := counters s 2 8 } := rfl

/-- Settles O27: SP is set from the word fetched at pc, or from HL with no bus access. -/
theorem ldSpLoadsAWordOrHL : Obligations.LdSpLoadsAWordOrHL :=
  ⟨decodeOpcode_opcode .ldSpImm, decodeOpcode_opcode .ldSpHL, fun s =>
    ⟨exec_instr_of_runForm .ldSpImm (loadSpImm_eq s), exec_instr_of_runForm .ldSpHL (loadSpHL_eq s)⟩⟩

/-- Settles O28: the address is read before SP is stored, and the read leaves SP and the memory alone. -/
theorem ldAbsSpStoresAWord : Obligations.LdAbsSpStoresAWord := by
  refine ⟨decodeOpcode_opcode .ldAbsSp, fun s => exec_instr_of_runForm .ldAbsSp ?_⟩
  rw [List.append_cons _ _ [_]]
  rfl

/-! ### LDHL SP,n (R134) -/

theorem writePair_HL (v : Word) (s : State) :
    writePair .HL v s = { s with h := (v >>> 8).setWidth 8, l := v.setWidth 8 } := rfl

theorem loadHLSpImm_of_ldhlOf {s : State} {o : LdhlOut} (h : ldhlOf s.cfg.ldhlSigned s.sp (busByte s.pc s) = o) :
    loadHLSpImm s = { s with
      h := (o.res >>> 8).setWidth 8, l := o.res.setWidth 8, f := packFlags false false o.h o.c,
      pc := s.pc + 1#16, last := counters s 3 12,
      events := s.events ++ [.read1 s.pc (busByte s.pc s)], busReads := s.busReads + 1 } := by
  have sp_kept : (fetch8 s).2.sp = s.sp := rfl
  simp only [loadHLSpImm, sp_kept, fetch8_fst, h, writePair_HL, ← flagByte_eq_packFlags]
  rfl

/-- A 16-bit sum is below its first term exactly when it wraps. -/
theorem add_zext16_lt_iff (sp : Word) (n : Byte) :
    (sp + zext16 n).toNat < sp.toNat ↔ 0x10000 ≤ sp.toNat + n.toNat := by
  rw [zext16]
  bv_omega

theorem word_and_15_toNat (x : Word) : (x &&& 0x000F#16).toNat = x.toNat % 16 :=
  Nat.and_two_pow_sub_one_eq_mod x.toNat 4

theorem word_and_255_toNat (x : Word) : (x &&& 0x00FF#16).toNat = x.toNat % 256 :=
  Nat.and_two_pow_sub_one_eq_mod x.toNat 8

theorem ldhlOf_false (sp : Word) (n : Byte) : ldhlOf false sp n = ldhlUnsigned sp n := rfl

/-- The signed form's masks are remainders (log 12). -/
theorem ldhlOf_true (sp : Word) (n : Byte) :
    ldhlOf true sp n =
      ⟨sp + sext16 n, decide (0xF < sp.toNat % 16 + n.toNat % 16), decide (0xFF < sp.toNat % 256 + n.toNat)⟩ := by
  rw [← word_and_15_toNat, ← and_15_toNat, ← word_and_255_toNat]
  rfl

/-- Settles O29: the parameter selects LDHL's form, and the unsigned form's C is the wrap of SP + n. -/
theorem ldhlUnderBothSignednessParameters : Obligations.LdhlUnderBothSignednessParameters := by
  refine ⟨decodeOpcode_opcode .ldhlSp, fun s => ⟨fun unsigned => ⟨?_, add_zext16_lt_iff s.sp _⟩, fun signed => ?_⟩⟩
  · have form := loadHLSpImm_of_ldhlOf (unsigned ▸ ldhlOf_false s.sp (busByte s.pc s))
    exact exec_instr_of_runForm .ldhlSp form
  · have form := loadHLSpImm_of_ldhlOf (signed ▸ ldhlOf_true s.sp (busByte s.pc s))
    exact exec_instr_of_runForm .ldhlSp form

end Sys2Proof.Proofs.Load16
end

section
/-! The stack: PUSH and POP on the whole state, and what POP gives back of a PUSH (43_stack.md). -/

namespace Sys2Proof.Proofs.Stack

open Sys2Proof Sys2Proof.Machine Sys2Proof.Proofs.Bus Sys2Proof.Proofs.Encoding Sys2Proof.Proofs.Load8
  Sys2Proof.Proofs.Load16

/-! ### PUSH (R150) -/

theorem pushPair_of_cycles {s : State} {m t : Nat} (cost : pushCycles s.cfg.pushCost = ⟨m, t⟩) (p : Pair) :
    let hi := readReg (pairHi p) s
    let lo := readReg (pairLo p) s
    pushPair p s = { s with
      sp := s.sp - 2#16,
      mem := Memory.write (Memory.write s.mem (s.sp - 1#16).toNat hi) (s.sp - 2#16).toNat lo,
      last := counters s m t,
      events := s.events ++ [.write1 (s.sp - 1#16) hi, .write1 (s.sp - 2#16) lo] } := by
  intro hi lo
  have twice : s.sp - 2#16 = s.sp - 1#16 - 1#16 := by bv_omega
  rw [pushPair, cost, twice, List.append_cons _ _ [_]]
  rfl

/-- Settles O30: the parameter selects the cost and nothing else. -/
theorem pushStoresHighThenLow : Obligations.PushStoresHighThenLow := fun p _ =>
  ⟨decodeOpcode_push p,
    fun cost => exec_instr_of_runForm (.push p) (pushPair_of_cycles (congrArg pushCycles cost) p),
    fun cost => exec_instr_of_runForm (.push p) (pushPair_of_cycles (congrArg pushCycles cost) p)⟩

/-! ### POP (R151, R152) -/

/-- No register takes part in a byte's pop. -/
theorem popByte_writeReg (r : Reg) (v : Byte) (s : State) :
    popByte (writeReg r v s) = ((popByte s).1, writeReg r v (popByte s).2) := by
  cases r <;> rfl

/-- The low register may as well be written after both reads. The second read's answer is the bus's after the first
read, which a free bus may tell apart (log 2). -/
theorem popPair_eq (p : Pair) (s : State) :
    let lo := busByte s.sp s
    let hi := busByte (s.sp + 1#16) (noteRead (.read1 s.sp lo) s)
    popPair p s = writePair p (join hi lo) { s with
      sp := s.sp + 2#16, last := counters s 3 12,
      events := s.events ++ [.read1 s.sp lo, .read1 (s.sp + 1#16) hi], busReads := s.busReads + 2 } := by
  intro lo hi
  have twice : s.sp + 2#16 = s.sp + 1#16 + 1#16 := by bv_omega
  calc popPair p s
      = charge 3 12 (writePairBytes .lowFirst p lo hi (popByte (popByte s).2).2) := by
        rw [popPair, popByte_writeReg]
        rfl
    _ = writePair p (join hi lo) (charge 3 12 (popByte (popByte s).2).2) := by
        rw [charge_writePairBytes, writePairBytes_lowFirst]
    _ = _ := by
        rw [twice, List.append_cons _ _ [_]]
        rfl

/-- Settles O31, by POP's rule. -/
theorem popLoadsLowThenHigh : Obligations.PopLoadsLowThenHigh := fun p s =>
  ⟨decodeOpcode_pop p, exec_instr_of_runForm (.pop p) (popPair_eq (mainPair p) s)⟩

/-- A byte's four high bits, put where the flags sit, are the byte with its low nibble cleared (R25, R26). -/
theorem packFlags_getLsbD (v : Byte) :
    packFlags (v.getLsbD 7) (v.getLsbD 6) (v.getLsbD 5) (v.getLsbD 4) = v &&& 0xF0#8 := by
  revert v
  decide

theorem writePair_AF_join (hi lo : Byte) (s : State) :
    writePair .AF (join hi lo) s = { s with a := hi, f := lo &&& 0xF0#8 } := by
  rw [writePair, split_join]
  rfl

/-- Settles O32: POP's rule at AF, where the write of F clears the popped byte's low nibble. -/
theorem popAFMasksTheLowNibble : Obligations.PopAFMasksTheLowNibble := by
  refine ⟨decodeOpcode_opcode .popAF, fun s => ⟨exec_instr_of_runForm .popAF ?_, packFlags_getLsbD _⟩⟩
  rw [packFlags_getLsbD]
  exact (popPair_eq .AF s).trans (writePair_AF_join ..)

/-! ### POP after PUSH (R153) -/

/-- The low byte is the later store, and the two addresses differ. -/
theorem ramByte_pushPair {s : State} (h : Memory.wf s.mem) (p : Pair) (x : Word) :
    ramByte (pushPair p s) x =
      if x = s.sp - 2#16 then readReg (pairLo p) s
      else if x = s.sp - 1#16 then readReg (pairHi p) s
      else ramByte s x := by
  rw [pushPair_of_cycles rfl]
  exact (Memory.read_write_word (Memory.write_word_wf _ _ h)).trans
    (if_congr Iff.rfl rfl (Memory.read_write_word h))

theorem ramByte_pushPair_low {s : State} (h : Memory.wf s.mem) (p : Pair) :
    ramByte (pushPair p s) (s.sp - 2#16) = readReg (pairLo p) s := by
  rw [ramByte_pushPair h, if_pos rfl]

theorem ramByte_pushPair_high {s : State} (h : Memory.wf s.mem) (p : Pair) :
    ramByte (pushPair p s) (s.sp - 1#16) = readReg (pairHi p) s := by
  have ne : s.sp - 1#16 ≠ s.sp - 2#16 := by bv_omega
  rw [ramByte_pushPair h, if_neg ne, if_pos rfl]

theorem pushPair_sp (p : Pair) (s : State) : (pushPair p s).sp = s.sp - 2#16 := by
  rw [pushPair_of_cycles rfl]

theorem popPair_sp (p : Pair) (s : State) : (popPair p s).sp = s.sp + 2#16 := by
  simp [popPair_eq, writePair]

theorem popPair_pushPair_sp (p q : Pair) (s : State) : (popPair q (pushPair p s)).sp = s.sp := by
  rw [popPair_sp, pushPair_sp, BitVec.sub_add_cancel]

@[simp] theorem readReg_pushPair (r : Reg) (p : Pair) (s : State) : readReg r (pushPair p s) = readReg r s := by
  simp [pushPair]

/-- A register after a pair write depends on the registers before it alone. -/
theorem readReg_writePair_congr {s t : State} (regs : ∀ r, readReg r t = readReg r s) (p : Pair) (v : Word)
    (r : Reg) : readReg r (writePair p v t) = readReg r (writePair p v s) := by
  simp [writePair, regs]

/-- On the RAM bus the registers after POP are those after a pair write of the word at SP. -/
theorem readReg_popPair_ram {s : State} (hb : s.cfg.bus = .ram) (p : Pair) (r : Reg) :
    readReg r (popPair p s) =
      readReg r (writePair p (join (ramByte s (s.sp + 1#16)) (ramByte s s.sp)) s) := by
  rw [popPair_eq, busByte_noteRead_ram hb, busByte_eq_ramByte hb, busByte_eq_ramByte hb]
  exact readReg_writePair_congr (fun r => by cases r <;> rfl) p _ r

/-- The word at SP after PUSH is the pair pushed, whichever pair it is popped into. -/
theorem readReg_popPair_pushPair {s : State} (h : Memory.wf s.mem) (hb : s.cfg.bus = .ram) (p q : Pair) (r : Reg) :
    readReg r (popPair q (pushPair p s)) = readReg r (writePair q (readPair p s) s) := by
  have bus : (pushPair p s).cfg.bus = .ram := hb
  have above : s.sp - 2#16 + 1#16 = s.sp - 1#16 := by bv_omega
  rw [readReg_popPair_ram bus, pushPair_sp, above, ramByte_pushPair_low h, ramByte_pushPair_high h, ← readPair_eq]
  exact readReg_writePair_congr (fun r => readReg_pushPair r p s) q _ r

theorem and_highNibble_of_low_zero {f : Byte} (low : f &&& 0x0F#8 = 0#8) : f &&& 0xF0#8 = f := by
  revert f
  decide

/-- A pair that gets its own value back is unchanged; F needs its low nibble at 0 (R26). -/
theorem writePair_readPair_self {s : State} (hf : s.f &&& 0x0F#8 = 0#8) (p : Pair) :
    writePair p (readPair p s) s = s := by
  rw [readPair_eq]
  cases p
  case AF =>
    have masked : readReg (pairLo .AF) s &&& 0xF0#8 = s.f := and_highNibble_of_low_zero hf
    rw [writePair_AF_join, masked]
    rfl
  all_goals
    rw [writePair, split_join]
    rfl

/-- BC, DE and HL read back every value written (R24). -/
theorem readPair_writePair_mainPair (q : MainPair) (v : Word) (s : State) :
    readPair (mainPair q) (writePair (mainPair q) v s) = v := by
  cases q <;> exact join_split v

/-- Settles O33: POP writes the pushed pair's value, which leaves the same pair as it was and copies into another. -/
theorem pushThenPopRestores : Obligations.PushThenPopRestores := by
  refine fun s h hb hf => ⟨fun p => ?_, fun p q => ?_⟩
  · have restored (r : Reg) : readReg r (popPair p (pushPair p s)) = readReg r s := by
      rw [readReg_popPair_pushPair h hb, writePair_readPair_self hf]
    refine ⟨pushPair p s, popPair p (pushPair p s), exec_instr (.push p) s, ramByte_pushPair_high h p,
      ramByte_pushPair_low h p, ?_, restored, popPair_pushPair_sp p p s⟩
    cases p with
    | BC => exact exec_instr (.pop .BC) _
    | DE => exact exec_instr (.pop .DE) _
    | HL => exact exec_instr (.pop .HL) _
    | AF => exact exec_instr .popAF _
  · have copied : readPair (mainPair q) (popPair (mainPair q) (pushPair p s)) = readPair p s := by
      rw [readPair_eq, readReg_popPair_pushPair h hb, readReg_popPair_pushPair h hb, ← readPair_eq,
        readPair_writePair_mainPair]
    exact ⟨_, _, exec_instr (.push p) s, exec_instr (.pop q) _, copied, popPair_pushPair_sp p (mainPair q) s⟩

end Sys2Proof.Proofs.Stack
end

section
/-! 8-bit arithmetic: an ALU instruction on the whole state, and the integer reading of the flag formulas
(44_arith8.md). -/

namespace Sys2Proof.Proofs.Arith8

open Sys2Proof Sys2Proof.Machine Sys2Proof.Proofs.State Sys2Proof.Proofs.Encoding Sys2Proof.Proofs.Load8

/-! ### An ALU instruction on the whole state (R160) -/

theorem aluOperand_value (src : AluSrc) (s : State) : (aluOperand src s).1 = aluValue src s := by
  cases src <;> rfl

theorem aluOperand_state (src : AluSrc) (s : State) : (aluOperand src s).2.2 = afterOperand src s := by
  cases src <;> rfl

/-- The cost of an operand, folded into K bits as `charge` does. -/
theorem charge_aluOperand_cost (src : AluSrc) (s t : State) (cfg : t.cfg = s.cfg) :
    charge (aluOperand src s).2.1.m (aluOperand src s).2.1.t t = { t with last := aluCost src s } := by
  rw [charge, cfg]
  cases src <;> rfl

theorem afterOperand_cfg (src : AluSrc) (s : State) : (afterOperand src s).cfg = s.cfg := by
  cases src <;> rfl

theorem afterOperand_a (src : AluSrc) (s : State) : (afterOperand src s).a = s.a := by
  cases src <;> rfl

theorem afterOperand_f (src : AluSrc) (s : State) : (afterOperand src s).f = s.f := by
  cases src <;> rfl

/-- Reading the operand leaves A and F alone, so the function is computed from the A and the C flag before the
instruction. -/
theorem aluInstr_eq (op : AluOp) (src : AluSrc) (s : State) :
    let o := aluFun op s.a (aluValue src s) (s.f.getLsbD 4)
    aluInstr op src s = { afterOperand src s with
      a := o.res, f := packFlags o.z o.n o.h o.c, last := aluCost src s } := by
  intro o
  have computed :
      aluFun op (readReg .A (afterOperand src s)) (aluValue src s) (testFlag .C (afterOperand src s)) = o := by
    rw [readReg_A, testFlag_C, afterOperand_a, afterOperand_f]
  simp only [aluInstr, aluOperand_value, aluOperand_state, computed, setFlags_eq, writeReg_A]
  exact charge_aluOperand_cost src s _ (afterOperand_cfg src s)

theorem exec_alu (op : AluOp) (src : AluSrc) (s : State) :
    let o := aluFun op s.a (aluValue src s) (s.f.getLsbD 4)
    exec (Form.alu op src).instr s = .next { afterOperand src s with
      a := o.res, f := packFlags o.z o.n o.h o.c, last := aluCost src s } :=
  exec_instr_of_runForm (.alu op src) (aluInstr_eq op src s)

/-- The eight register opcodes of an operation follow its first one (R73). -/
theorem decodeOpcode_alu_row (op : AluOp) (r : Opnd) :
    decodeOpcode (0b10000000#8 + 8#8 * aluCode op + opndCode r) = (Form.alu op (.reg r)).instr := by
  rw [BitVec.add_assoc, decodeOpcode_alu_reg]

/-- Settles O34: the ALU instruction with `add8`, whose flags are R161's formulas. -/
theorem addInstructions : Obligations.AddInstructions :=
  ⟨decodeOpcode_alu_row .add, decodeOpcode_alu_atHL .add, decodeOpcode_alu_imm .add, exec_alu .add⟩

/-- Settles O35: the ALU instruction with `adc8`, whose carry-in is the C flag before the instruction (R162). -/
theorem adcInstructions : Obligations.AdcInstructions :=
  ⟨decodeOpcode_alu_row .adc, decodeOpcode_alu_atHL .adc, decodeOpcode_alu_imm .adc, exec_alu .adc⟩

/-- Settles O36: the ALU instruction with `sub8`, whose flags are R163's formulas. -/
theorem subInstructions : Obligations.SubInstructions :=
  ⟨decodeOpcode_alu_row .sub, decodeOpcode_alu_atHL .sub, decodeOpcode_alu_imm .sub, exec_alu .sub⟩

/-! ### The flag formulas as carries and borrows (R161-R163) -/

/-- Bit 4 of the sum of two low nibbles is the carry out of bit 3. -/
theorem nibble_add_bit_iff (x y : Byte) :
    ((x &&& 0x0F#8) + (y &&& 0x0F#8)) &&& 0x10#8 ≠ 0#8 ↔ 16 ≤ x.toNat % 16 + y.toNat % 16 := by
  rw [and_16_ne_zero, BitVec.toNat_add, and_15_toNat, and_15_toNat]
  omega

/-- Bit 4 of the modular difference of two low nibbles is the borrow into bit 3. -/
theorem nibble_sub_bit_iff (x y : Byte) :
    ((x &&& 0x0F#8) - (y &&& 0x0F#8)) &&& 0x10#8 ≠ 0#8 ↔ x.toNat % 16 < y.toNat % 16 := by
  rw [and_16_ne_zero, BitVec.toNat_sub, and_15_toNat, and_15_toNat]
  omega

/-- A sum is below its first term exactly when it wraps. -/
theorem add_lt_left_iff (a b : Byte) : a + b < a ↔ 256 ≤ a.toNat + b.toNat := by
  bv_omega

/-- A difference is above its first term exactly when it borrows. -/
theorem lt_sub_iff (a b : Byte) : a < a - b ↔ a.toNat < b.toNat := by
  bv_omega

/-- Settles O38: each flag's formula, and the carry or borrow it stands for. -/
theorem addAndSubFlagsAreCarriesAndBorrows : Obligations.AddAndSubFlagsAreCarriesAndBorrows := fun a b =>
  ⟨rfl, decide_eq_true_iff, rfl, decide_eq_true_iff, decide_eq_true_iff,
    decide_eq_true_iff.trans (add_lt_left_iff a b), decide_eq_true_iff.trans (nibble_add_bit_iff a b),
    rfl, decide_eq_true_iff, rfl, decide_eq_true_iff, decide_eq_true_iff,
    decide_eq_true_iff.trans (lt_sub_iff a b), decide_eq_true_iff.trans (nibble_sub_bit_iff a b)⟩

/-! ### ADC: the carry-in is added to the operand first (R162) -/

/-- The old C flag as the byte that ADC adds (R162). -/
abbrev carryIn (cin : Bool) : Byte := if cin then 1#8 else 0#8

theorem carryIn_false : carryIn false = 0#8 := rfl

theorem carryIn_true : carryIn true = 1#8 := rfl

/-- ADC is ADD of the operand plus the carry-in: the formulas of R162 are those of R161 at `b + cin`. -/
theorem adc8_eq_add8 (a b : Byte) (cin : Bool) : adc8 a b cin = add8 a (b + carryIn cin) := by
  simp only [adc8, add8, BitVec.add_assoc]

theorem adc8_h_iff (a b : Byte) (cin : Bool) :
    (adc8 a b cin).h = true ↔ 16 ≤ a.toNat % 16 + (b + carryIn cin).toNat % 16 := by
  rw [adc8_eq_add8]
  exact decide_eq_true_iff.trans (nibble_add_bit_iff ..)

theorem adc8_c_iff (a b : Byte) (cin : Bool) :
    (adc8 a b cin).c = true ↔ 256 ≤ a.toNat + (b + carryIn cin).toNat := by
  rw [adc8_eq_add8]
  exact decide_eq_true_iff.trans (add_lt_left_iff ..)

/-- The operand's low nibble wraps to 0 under the carry-in, so no carry out of bit 3 is seen. -/
theorem adc8_h_of_nibble_15 (a : Byte) {b : Byte} (low : b.toNat % 16 = 15) : (adc8 a b true).h = false := by
  have wraps : (b + 1#8).toNat % 16 = 0 := by bv_omega
  have no_carry : ¬ 16 ≤ a.toNat % 16 + (b + 1#8).toNat % 16 := by omega
  exact Bool.eq_false_iff.mpr fun h => no_carry ((adc8_h_iff a b true).mp h)

/-- 0xFF and the carry-in make 0, so A is kept and no carry is seen. -/
theorem adc8_0xFF_true (a : Byte) : adc8 a 0xFF#8 true = add8 a 0#8 :=
  adc8_eq_add8 a 0xFF#8 true

theorem add8_zero_res (a : Byte) : (add8 a 0#8).res = a :=
  BitVec.add_zero a

theorem add8_zero_c (a : Byte) : (add8 a 0#8).c = false := by
  simp [add8]

/-- Outside its corner the nibble of `b + cin` does not wrap. -/
theorem add_carryIn_nibble {b : Byte} {cin : Bool} (h : ¬ (cin = true ∧ b.toNat % 16 = 15)) :
    (b + carryIn cin).toNat % 16 = b.toNat % 16 + (carryIn cin).toNat := by
  cases cin
  · simp [carryIn_false]
  · have room : b.toNat % 16 ≠ 15 := fun low => h ⟨rfl, low⟩
    rw [carryIn_true]
    bv_omega

/-- Outside its corner `b + cin` does not wrap. -/
theorem add_carryIn_toNat {b : Byte} {cin : Bool} (h : ¬ (cin = true ∧ b = 0xFF#8)) :
    (b + carryIn cin).toNat = b.toNat + (carryIn cin).toNat := by
  cases cin
  · simp [carryIn_false]
  · have room : b ≠ 0xFF#8 := fun full => h ⟨rfl, full⟩
    rw [carryIn_true]
    bv_omega

/-- Settles O39: the two corners are where `b + cin` wraps, in its low nibble or as a byte, before A is added; elsewhere
the flags are the carries of the whole sum. -/
theorem adcFlagsAndTheirTwoCorners : Obligations.AdcFlagsAndTheirTwoCorners := by
  refine fun a b cin => ⟨rfl, decide_eq_true_iff, rfl, decide_eq_true_iff, decide_eq_true_iff, ?_, ?_, ?_, ?_⟩
  · rintro rfl low
    exact adc8_h_of_nibble_15 a low
  · rintro rfl rfl
    rw [adc8_0xFF_true]
    exact ⟨add8_zero_res a, add8_zero_c a⟩
  · intro outside
    rw [adc8_h_iff, add_carryIn_nibble outside, Nat.add_assoc]
  · intro outside
    rw [adc8_c_iff, add_carryIn_toNat outside, Nat.add_assoc]

end Sys2Proof.Proofs.Arith8
end

section
/-! Logical instructions: AND, OR, XOR on the whole state, and the part that the flags before an ALU instruction play
(45_logical.md). -/

namespace Sys2Proof.Proofs.Logical

open Sys2Proof Sys2Proof.Machine Sys2Proof.Proofs.Encoding Sys2Proof.Proofs.Arith8

/-- Settles O37: the ALU instruction with `and8`, `or8` and `xor8`, whose results and flags are R180's. -/
theorem logicalInstructions : Obligations.LogicalInstructions :=
  ⟨fun r => ⟨decodeOpcode_alu_row .and r, decodeOpcode_alu_row .or r, decodeOpcode_alu_row .xor r⟩,
    decodeOpcode_alu_atHL .and, decodeOpcode_alu_imm .and,
    decodeOpcode_alu_atHL .or, decodeOpcode_alu_imm .or,
    decodeOpcode_alu_atHL .xor, decodeOpcode_alu_imm .xor,
    fun src s => ⟨exec_alu .and src s, exec_alu .or src s, exec_alu .xor src s⟩⟩

/-! ### The flags before an ALU instruction (R190) -/

/-- An operand register is one of A, B, C, D, E, H, L, never F. -/
theorem readReg_opndReg_with_f (r : Opnd) (s : State) (v : Byte) :
    readReg (opndReg r) { s with f := v } = readReg (opndReg r) s := by
  cases r <;> rfl

theorem aluValue_with_f (src : AluSrc) (s : State) (v : Byte) : aluValue src { s with f := v } = aluValue src s := by
  cases src with
  | reg r => exact readReg_opndReg_with_f r s v
  | atHL => rfl
  | imm => rfl

theorem aluCost_with_f (src : AluSrc) (s : State) (v : Byte) : aluCost src { s with f := v } = aluCost src s := by
  cases src <;> rfl

theorem afterOperand_with_f (src : AluSrc) (s : State) (v : Byte) :
    afterOperand src { s with f := v } = { afterOperand src s with f := v } := by
  cases src <;> rfl

/-- Only ADC has a carry-in (R162, R173, R190). -/
theorem aluFun_cin_of_ne_adc {op : AluOp} (h : op ≠ .adc) (a b : Byte) (c d : Bool) :
    aluFun op a b c = aluFun op a b d := by
  cases op with
  | adc => exact absurd rfl h
  | add | sub | and | xor | or => rfl

/-- The function gives the same result and flags if it is not ADC or the carry-in is the same. -/
theorem aluFun_cin_congr {op : AluOp} {c d : Bool} (h : op ≠ .adc ∨ c = d) (a b : Byte) :
    aluFun op a b c = aluFun op a b d := by
  obtain not_adc | rfl := h
  · exact aluFun_cin_of_ne_adc not_adc a b c d
  · rfl

/-- Settles O58: operand, cost and the state after the operand is read do not depend on F, the function depends on it
at most by the carry-in, and the new F replaces the old one. -/
theorem oldFlagsMatterOnlyToAdc : Obligations.OldFlagsMatterOnlyToAdc := by
  intro op src s v h
  have same_out := aluFun_cin_congr h s.a (aluValue src s)
  simp only [exec_alu, aluValue_with_f, aluCost_with_f, afterOperand_with_f, same_out]

end Sys2Proof.Proofs.Logical
end

section
/-! Control opcodes: NOP, HALT, DI and EI (46_control.md). -/

namespace Sys2Proof.Proofs.Control

open Sys2Proof Sys2Proof.Machine Sys2Proof.Proofs.Encoding Sys2Proof.Proofs.Load8

/-- R31: charging a cost records it folded into K bits, and does nothing else. -/
theorem charge_eq (m t : Nat) (s : State) : charge m t s = { s with last := counters s m t } := rfl

/-- Settles O40: each of the four operations is the charge of (1, 4). -/
theorem controlOpcodesOnlyCharge : Obligations.ControlOpcodesOnlyCharge :=
  ⟨decodeOpcode_opcode .nop, decodeOpcode_opcode .halt, decodeOpcode_opcode .di, decodeOpcode_opcode .ei, fun s =>
    ⟨exec_instr_of_runForm .nop (charge_eq 1 4 s), exec_instr_of_runForm .halt (charge_eq 1 4 s),
      exec_instr_of_runForm .di (charge_eq 1 4 s), exec_instr_of_runForm .ei (charge_eq 1 4 s)⟩⟩

end Sys2Proof.Proofs.Control
end

section
/-! The dispatcher: what a step is in each of its three cases, and what it leaves at a step boundary
(47_dispatcher.md). -/

namespace Sys2Proof.Proofs.Dispatcher

open Sys2Proof Sys2Proof.Machine Sys2Proof.Proofs.Bus Sys2Proof.Proofs.Encoding

/-! ### The parts of a step in the statements' words (R210, R211, R214, R215) -/

theorem fetchOpcode_snd_eq_fetched (s : State) : (fetchOpcode s).2 = fetched s := rfl

/-- Settles O44: `fetched` is the state the opcode fetch leaves, and `settled` is what the end of a step does. -/
theorem stepFetchesRunsAndFolds : Obligations.StepFetchesRunsAndFolds := fun _ running => step_running running

/-! ### The three cases of a step (R210, R216, R231) -/

/-- A CPU that has stopped answers its fault again (log 5). -/
theorem step_of_stopped {s : State} {mark : FatalMark} (h : s.stopped = some mark) :
    step s = .fault (.fatal mark s) := by
  simp only [step, h]

/-- A running CPU that fetches a byte of R232 raises that byte's fault. -/
theorem step_of_fatalByte {s : State} {k : FaultKind} (running : s.stopped = none)
    (h : busByte s.pc s ∈ fatalBytes k) :
    step s = .fault (.fatal ⟨k, busByte s.pc s, s.pc⟩
      { fetched s with stopped := some ⟨k, busByte s.pc s, s.pc⟩ }) := by
  have opAddr : (fetched s).pc - 1#16 = s.pc := BitVec.add_sub_cancel s.pc 1#16
  rw [step_running running, exec_eq_runEntry, entry_of_fatalBytes h, fetchOpcode_snd_eq_fetched]
  simp only [runEntry, raiseFatal, opAddr]

/-- A running CPU that fetches a form's opcode runs the form. -/
theorem step_of_form {s : State} {f : Form} (running : s.stopped = none)
    (h : decodeOpcode (busByte s.pc s) = f.instr) : step s = .next (settled (runForm f (fetched s))) :=
  step_of_decode running h

/-- No form's opcode is a byte of R232. -/
theorem notMem_fatalBytes_of_form {op : Byte} {f : Form} (h : decodeOpcode op = f.instr) (k : FaultKind) :
    op ∉ fatalBytes k := by
  intro fatal
  have entry := entry_of_fatalBytes fatal
  rw [h, entry_instr] at entry
  cases entry

/-- The byte a step fetches is one of R232's or a form's opcode (R76). -/
theorem fatalByte_or_form (op : Byte) :
    (∃ k, op ∈ fatalBytes k) ∨ ∃ f : Form, decodeOpcode op = f.instr := by
  obtain ⟨f, -, -, instr⟩ | ⟨k, entry⟩ := entry_decodeOpcode op
  · exact .inr ⟨f, instr.symm⟩
  · exact .inl ⟨k, mem_fatalBytes_of_entry entry⟩

/-- Which of the three cases a state is in: stopped, at a fatal byte, or at a form's opcode. -/
theorem state_cases (s : State) :
    (∃ mark, s.stopped = some mark) ∨
    (s.stopped = none ∧ ∃ k, busByte s.pc s ∈ fatalBytes k) ∨
    (s.stopped = none ∧ ∃ f : Form, decodeOpcode (busByte s.pc s) = f.instr) := by
  cases hs : s.stopped with
  | some mark => exact .inl ⟨mark, rfl⟩
  | none =>
    right
    exact (fatalByte_or_form (busByte s.pc s)).imp (⟨rfl, ·⟩) (⟨rfl, ·⟩)

/-- Settles O47: one answer in each of the three cases, and a next state in the third alone. -/
theorem stepAnswersNextOrFatal : Obligations.StepAnswersNextOrFatal := by
  intro s
  obtain ⟨mark, stopped⟩ | ⟨running, k, fatal⟩ | ⟨running, f, form⟩ := state_cases s
  · rw [step_of_stopped stopped]
    exact ⟨.inr ⟨_, _, rfl⟩,
      ⟨fun ⟨_, next⟩ => (nomatch next), fun ⟨running, _⟩ => (nomatch stopped.symm.trans running)⟩⟩
  · rw [step_of_fatalByte running fatal]
    exact ⟨.inr ⟨_, _, rfl⟩, ⟨fun ⟨_, next⟩ => (nomatch next), fun ⟨_, noFatal⟩ => absurd fatal (noFatal k)⟩⟩
  · rw [step_of_form running form]
    exact ⟨.inl ⟨_, rfl⟩, ⟨fun _ => ⟨running, notMem_fatalBytes_of_form form⟩, fun _ => ⟨_, rfl⟩⟩⟩

/-! ### The step boundary (R214, R215, R26, R30, R32) -/

/-- The fold bounds both clocks and the clear zeroes `last`, so the rest of the invariant is
the operation's to keep. -/
theorem settled_inv {s : State} (memWf : Memory.wf s.mem) (fLow : s.f &&& 0x0F#8 = 0#8)
    (cfgWf : s.cfg.wf = true) : Inv (settled s) where
  memWf := memWf
  fLow := fLow
  lastZero := rfl
  clkM := Nat.mod_lt _ (Nat.two_pow_pos _)
  clkT := Nat.mod_lt _ (Nat.two_pow_pos _)
  cfgWf := cfgWf

/-- Settles O48: the opcode fetch writes none of memory, F and the parameters, every form's operation keeps the
invariant's part of each, and the fold and the clear establish what it says of the clocks. -/
theorem stepKeepsTheInvariant : Obligations.StepKeepsTheInvariant := by
  intro s t inv h
  obtain ⟨-, f, -, rfl⟩ := step_next h
  obtain ⟨-, cfg, -⟩ := runForm_keeps f (fetchOpcode s).2
  exact settled_inv (runForm_memWf f _ inv.memWf) (runForm_fLow f _ inv.fLow) (cfg ▸ inv.cfgWf)

theorem counters_congr {s t : State} (h : t.cfg = s.cfg) (m n : Nat) : counters t m n = counters s m n := by
  rw [counters, counters, h]

/-- A counter may be wrapped before it is added (R30). -/
theorem counters_add_counters (s : State) (m t m' t' : Nat) :
    counters s (m + (counters s m' t').m) (t + (counters s m' t').t) = counters s (m + m') (t + t') := by
  simp [counters]

/-- The clock after a form's step: the cost the form charges, folded in (R214, R218). -/
theorem settled_runForm_clk (f : Form) (s : State) :
    (settled (runForm f s)).clk =
      counters s (s.clk.m + f.mCycles s.cfg.pushCost) (s.clk.t + 4 * f.mCycles s.cfg.pushCost) := by
  obtain ⟨-, cfg, clk, -, last⟩ := runForm_keeps f s
  rw [← counters_add_counters, ← last, ← clk]
  exact counters_congr cfg _ _

/-- The pc after a form's step (R211, R218). -/
theorem runForm_fetched_pc (f : Form) (s : State) :
    (runForm f (fetched s)).pc = s.pc + BitVec.ofNat 16 f.advance := by
  have past : (runForm f (fetched s)).pc + 1#16 = s.pc + 1#16 + BitVec.ofNat 16 f.advance :=
    runForm_pc f (fetched s)
  bv_omega

/-- Settles O46: each clause is what every form's operation does to one field, seen through the fetch and the fold. -/
theorem stepMeetsTheAdvanceAndCostTable : Obligations.StepMeetsTheAdvanceAndCostTable := by
  intro s f running form
  obtain ⟨-, -, -, -, last⟩ := runForm_keeps f (fetched s)
  exact ⟨settled (runForm f (fetched s)), step_of_form running form, rfl, runForm_fLow f (fetched s),
    congrArg some last, settled_runForm_clk f (fetched s), runForm_fetched_pc f s,
    runForm_events_head f (fetched s) _ rfl⟩

/-! ### The decoded instruction (R210, R211, R213, R74) -/

/-- What `decode` gives is the instruction of the first byte, and as many of the bytes after it as it has
immediates. -/
theorem of_decode_cons {op : Byte} {more rest : List Byte} {code : Code} (h : decode (op :: more) = .ok code rest) :
    decodeOpcode op = code.instr ∧ code.imm = more.take code.instr.immCount := by
  obtain ⟨wf, bytes⟩ := encodeInvertsDecode.1 _ _ _ h
  obtain ⟨rfl, rfl⟩ : opcodeOf code.instr = op ∧ code.imm ++ rest = more := List.cons.inj bytes
  exact ⟨decodeOpcode_opcodeOf code.instr, (List.take_left' ((wf_iff code).mp wf)).symm⟩

/-- Settles O45: the opcode read is the decoded first byte, and on the RAM bus the immediates are still there to fetch
after it. -/
theorem stepRunsTheDecodedInstruction : Obligations.StepRunsTheDecodedInstruction := by
  intro s code rest running hb h
  obtain ⟨instr, imm⟩ := of_decode_cons h
  have ram (a : Word) : busByte a (fetched s) = ramByte s a := busByte_eq_ramByte (s := fetched s) hb a
  have next : s.pc + 1#16 + 1#16 = s.pc + 2#16 := by bv_omega
  refine ⟨?_, fun one => ?_, fun two => ⟨?_, ?_⟩⟩
  · rw [← instr, ← busByte_eq_ramByte hb]
    exact stepFetchesRunsAndFolds s running
  · rw [imm, one, ← ram]
    rfl
  · rw [imm, two, ram, ram]
    rfl
  · rw [← next]
    exact busWord_eq_join (s := fetched s) hb (s.pc + 1#16)

end Sys2Proof.Proofs.Dispatcher
end

section
/-! Determinism: two steps from the same CPU state whose bus reads are answered alike end in the same CPU state, with
the same events and cost (R217, 47_dispatcher.md). -/

namespace Sys2Proof.Proofs.Determinism

open Sys2Proof Sys2Proof.Machine Sys2Proof.Proofs.Bus Sys2Proof.Proofs.Dispatcher

/-! ### Two states in lockstep -/

/-- The state with another bus side: the memory and the count of reads. -/
def withBus (m : Memory) (n : Nat) (s : State) : State := { s with mem := m, busReads := n }

/-- The two states differ in their bus sides at most, and their buses answer alike at the addresses `A`. -/
structure Lockstep (A : Set Word) (s s' : State) : Prop where
  same : withBus s'.mem s'.busReads s = s'
  ram : s.cfg.bus = .ram → ∀ a ∈ A, ramByte s a = ramByte s' a
  free : s.cfg.bus = .free → s.busReads = s'.busReads

section

variable {A : Set Word} {s s' : State}

theorem Lockstep.cpuAgree (l : Lockstep A s s') : CpuAgree s s' := by
  rw [← l.same]
  exact ⟨fun r => by cases r <;> rfl, rfl, rfl, rfl, rfl, rfl, rfl⟩

theorem Lockstep.events_eq (l : Lockstep A s s') : s'.events = s.events := (congrArg State.events l.same).symm

theorem Lockstep.cost_eq (l : Lockstep A s s') : s'.cost = s.cost := (congrArg State.cost l.same).symm

theorem Lockstep.readReg_eq (l : Lockstep A s s') (r : Reg) : readReg r s = readReg r s' := l.cpuAgree.regs r

theorem Lockstep.readPair_eq (l : Lockstep A s s') (p : Pair) : readPair p s = readPair p s' := by
  rw [readPair, readPair, l.readReg_eq, l.readReg_eq]

theorem Lockstep.pcPageAddr_eq (l : Lockstep A s s') : pcPageAddr s = pcPageAddr s' := by
  rw [pcPageAddr, pcPageAddr, l.cpuAgree.pc]

theorem Lockstep.testFlag_eq (l : Lockstep A s s') (x : Flag) : testFlag x s = testFlag x s' := by
  have f : s.f = s'.f := l.readReg_eq .F
  rw [testFlag, testFlag, f]

/-- On the RAM bus the bytes agree; on the free bus the reads have the same number. -/
theorem Lockstep.busByte_eq (l : Lockstep A s s') {a : Word} (ha : a ∈ A) : busByte a s = busByte a s' := by
  have cfg := l.cpuAgree.cfg
  cases hb : s.cfg.bus with
  | ram => rw [busByte_eq_ramByte hb, busByte_eq_ramByte (cfg ▸ hb), l.ram hb a ha]
  | free => simp only [busByte, ← cfg, hb, l.free hb]

theorem Lockstep.busWord_eq (l : Lockstep A s s') {a : Word} (low : a ∈ A) (high : a + 1#16 ∈ A) :
    busWord a s = busWord a s' := by
  have cfg := l.cpuAgree.cfg
  cases hb : s.cfg.bus with
  | ram => rw [busWord_eq_join hb, busWord_eq_join (cfg ▸ hb), l.busByte_eq low, l.busByte_eq high]
  | free => simp only [busWord, ← cfg, hb, l.free hb]

theorem value_eq_of_append_read1 {evs evs' : List BusEvent} {a a' : Word} {v v' : Byte}
    (h : evs ++ [.read1 a v] = evs' ++ [.read1 a' v']) : v = v' := by
  cases List.append_inj_right' h rfl
  rfl

/-- The byte read last is in the events, so states in lockstep have read the same one. -/
theorem Lockstep.byteRead (l : Lockstep A s s') {evs evs' : List BusEvent} {a a' : Word} {v v' : Byte}
    (e : s.events = evs ++ [.read1 a v]) (e' : s'.events = evs' ++ [.read1 a' v']) : v = v' :=
  value_eq_of_append_read1 (e.symm.trans (l.events_eq.symm.trans e'))

/-- The word read last is in the events as well. -/
theorem Lockstep.wordRead (l : Lockstep A s s') {evs evs' : List BusEvent} {a a' v v' : Word}
    (e : s.events = evs ++ [.read2 a v]) (e' : s'.events = evs' ++ [.read2 a' v']) : v = v' := by
  cases List.append_inj_right' (e.symm.trans (l.events_eq.symm.trans e')) rfl
  rfl

end

/-! ### Updates that the bus takes no part in -/

/-- The update neither uses nor changes the bus side, the events and the parameters. -/
structure BusBlind (op : State → State) : Prop where
  comm_withBus (m : Memory) (n : Nat) (s : State) : op (withBus m n s) = withBus m n (op s)
  events (s : State) : (op s).events = s.events
  cfg (s : State) : (op s).cfg = s.cfg

theorem BusBlind.mem {op : State → State} (b : BusBlind op) (s : State) : (op s).mem = s.mem :=
  (congrArg State.mem (b.comm_withBus s.mem s.busReads s)).trans rfl

theorem BusBlind.busReads {op : State → State} (b : BusBlind op) (s : State) : (op s).busReads = s.busReads :=
  (congrArg State.busReads (b.comm_withBus s.mem s.busReads s)).trans rfl

theorem BusBlind.comp {op₂ op₁ : State → State} (b₂ : BusBlind op₂) (b₁ : BusBlind op₁) :
    BusBlind fun s => op₂ (op₁ s) :=
  ⟨fun m n s => by rw [b₁.comm_withBus, b₂.comm_withBus], fun s => by rw [b₂.events, b₁.events],
    fun s => by rw [b₂.cfg, b₁.cfg]⟩

theorem advancePc_busBlind (k : Word) : BusBlind (advancePc k) := ⟨fun _ _ _ => rfl, fun _ => rfl, fun _ => rfl⟩

theorem setSp_busBlind (v : Word) : BusBlind (setSp v) := ⟨fun _ _ _ => rfl, fun _ => rfl, fun _ => rfl⟩

theorem charge_busBlind (m n : Nat) : BusBlind (charge m n) := ⟨fun _ _ _ => rfl, fun _ => rfl, fun _ => rfl⟩

theorem setFlags_busBlind (z n h c : Bool) : BusBlind (setFlags z n h c) :=
  ⟨fun _ _ _ => rfl, fun _ => rfl, fun _ => rfl⟩

theorem writeReg_busBlind (r : Reg) (v : Byte) : BusBlind (writeReg r v) :=
  ⟨fun m n s => by cases r <;> rfl, writeReg_events r v, writeReg_cfg r v⟩

theorem writePair_busBlind (p : Pair) (v : Word) : BusBlind (writePair p v) :=
  (writeReg_busBlind ..).comp (writeReg_busBlind ..)

theorem writePairBytes_busBlind (order : LdrrOrder) (p : Pair) (b1 b2 : Byte) :
    BusBlind (writePairBytes order p b1 b2) := by
  cases order
  · exact (writeReg_busBlind ..).comp (writeReg_busBlind ..)
  · exact (writeReg_busBlind ..).comp (writeReg_busBlind ..)

/-- How an ALU instruction ends, but for its cost: the result into A, then the four flags (R160). -/
def writeAluOut (o : AluOut) (s : State) : State := setFlags o.z o.n o.h o.c (writeReg .A o.res s)

theorem writeAluOut_busBlind (o : AluOut) : BusBlind (writeAluOut o) :=
  (setFlags_busBlind ..).comp (writeReg_busBlind ..)

/-- How LDHL ends, but for its cost: the result into HL, then the four flags (R134). -/
def writeLdhlOut (o : LdhlOut) (s : State) : State := setFlags false false o.h o.c (writePair .HL o.res s)

theorem writeLdhlOut_busBlind (o : LdhlOut) : BusBlind (writeLdhlOut o) :=
  (setFlags_busBlind ..).comp (writePair_busBlind ..)

theorem settled_busBlind : BusBlind settled := ⟨fun _ _ _ => rfl, fun _ => rfl, fun _ => rfl⟩

theorem hlInc_busBlind : BusBlind hlInc :=
  ⟨fun m n s => by rw [hlInc_eq, hlInc_eq]; rfl, fun s => by rw [hlInc_eq], fun s => by rw [hlInc_eq]⟩

theorem hlDec_busBlind : BusBlind hlDec :=
  ⟨fun m n s => by rw [hlDec_eq, hlDec_eq]; rfl, fun s => by rw [hlDec_eq], fun s => by rw [hlDec_eq]⟩

/-! ### Runs that follow each other -/

/-- The states two runs have come to are in lockstep on `A`, if every byte the first run has read is one of `R`. A
read needs the buses to answer alike at every address of `R`; a store leaves nothing to read (R57), and `A` empty. -/
def Follows (R A : Set Word) (s s' : State) : Prop :=
  (∀ ev ∈ s.events, ∀ a ∈ ev.readAddrs, a ∈ R) → Lockstep A s s'

section

variable {R A : Set Word} {s s' : State}

/-! #### The primitives -/

theorem Follows.map {op : State → State} (h : Follows R A s s') (b : BusBlind op) :
    Follows R A (op s) (op s') := by
  intro reads
  rw [b.events] at reads
  have l := h reads
  refine ⟨?_, ?_, ?_⟩
  · rw [b.mem, b.busReads, ← b.comm_withBus, l.same]
  · simpa only [b.cfg, ramByte, b.mem] using l.ram
  · simpa only [b.cfg, b.busReads] using l.free

/-- The update may depend on a value that states in lockstep have in common. -/
theorem Follows.update {α : Type} {op : α → State → State} (h : Follows R A s s') (b : ∀ v, BusBlind (op v)) {v v' : α}
    (hv : Lockstep A s s' → v = v') : Follows R A (op v s) (op v' s') := by
  intro reads
  have l : Lockstep A s s' := h ((b v).events s ▸ reads)
  exact hv l ▸ h.map (b v) reads

protected theorem Follows.advancePc (h : Follows R A s s') (k : Word) :
    Follows R A (advancePc k s) (advancePc k s') :=
  h.map (advancePc_busBlind k)

protected theorem Follows.charge (h : Follows R A s s') (m n : Nat) : Follows R A (charge m n s) (charge m n s') :=
  h.map (charge_busBlind m n)

protected theorem Follows.hlInc (h : Follows R A s s') : Follows R A (hlInc s) (hlInc s') :=
  h.map hlInc_busBlind

protected theorem Follows.hlDec (h : Follows R A s s') : Follows R A (hlDec s) (hlDec s') :=
  h.map hlDec_busBlind

protected theorem Follows.setSp (h : Follows R A s s') {v v' : Word} (hv : Lockstep A s s' → v = v') :
    Follows R A (setSp v s) (setSp v' s') :=
  h.update setSp_busBlind hv

protected theorem Follows.writeReg (h : Follows R A s s') (r : Reg) {v v' : Byte} (hv : Lockstep A s s' → v = v') :
    Follows R A (writeReg r v s) (writeReg r v' s') :=
  h.update (writeReg_busBlind r) hv

protected theorem Follows.readByte (h : Follows R R s s') {a a' : Word} (ha : Lockstep R s s' → a = a') :
    Follows R R (memRead1 a s).2 (memRead1 a' s').2 := by
  intro reads
  rw [memRead1_snd, noteRead_events, List.forall_mem_append, List.forall_mem_singleton] at reads
  obtain ⟨before, read⟩ := reads
  have l := h before
  have answer : busByte a s = busByte a s' := l.busByte_eq (read a (List.mem_singleton_self a))
  rw [← ha l, memRead1_snd, memRead1_snd, ← answer]
  exact ⟨congrArg (noteRead (.read1 a (busByte a s))) l.same, l.ram, fun hb => congrArg (· + 1) (l.free hb)⟩

protected theorem Follows.readWord (h : Follows R R s s') {a a' : Word} (ha : Lockstep R s s' → a = a') :
    Follows R R (memRead2 a s).2 (memRead2 a' s').2 := by
  intro reads
  rw [memRead2_snd, noteRead_events, List.forall_mem_append, List.forall_mem_singleton] at reads
  obtain ⟨before, read⟩ := reads
  obtain ⟨low, high⟩ : a ∈ R ∧ a + 1#16 ∈ R := by simpa [BusEvent.readAddrs] using read
  have l := h before
  have answer : busWord a s = busWord a s' := l.busWord_eq low high
  rw [← ha l, memRead2_snd, memRead2_snd, ← answer]
  exact ⟨congrArg (noteRead (.read2 a (busWord a s))) l.same, l.ram, fun hb => congrArg (· + 1) (l.free hb)⟩

protected theorem Follows.storeByte (h : Follows R A s s') {a a' : Word} {v v' : Byte}
    (ha : Lockstep A s s' → a = a') (hv : Lockstep A s s' → v = v') :
    Follows R ∅ (memWrite1 a v s) (memWrite1 a' v' s') := by
  intro reads
  have l := h fun ev hev => reads ev (List.mem_append_left _ hev)
  rw [← ha l, ← hv l]
  exact ⟨congrArg (memWrite1 a v) l.same, fun _ _ none => none.elim, l.free⟩

protected theorem Follows.storeWord (h : Follows R A s s') {a a' v v' : Word}
    (ha : Lockstep A s s' → a = a') (hv : Lockstep A s s' → v = v') :
    Follows R ∅ (memWrite2 a v s) (memWrite2 a' v' s') := by
  intro reads
  have l := h fun ev hev => reads ev (List.mem_append_left _ hev)
  rw [← ha l, ← hv l]
  exact ⟨congrArg (memWrite2 a v) l.same, fun _ _ none => none.elim, l.free⟩

/-! #### The shared operations -/

protected theorem Follows.fetch8 (h : Follows R R s s') : Follows R R (fetch8 s).2 (fetch8 s').2 :=
  (h.readByte (·.cpuAgree.pc)).advancePc 1#16

protected theorem Follows.fetch16 (h : Follows R R s s') : Follows R R (fetch16 s).2 (fetch16 s').2 :=
  (h.readWord (·.cpuAgree.pc)).advancePc 2#16

protected theorem Follows.loadRegAt (h : Follows R R s s') (d : Opnd) {a a' : Word}
    (ha : Lockstep R s s' → a = a') : Follows R R (loadRegAt d a s) (loadRegAt d a' s') :=
  ((h.readByte ha).writeReg _ (·.byteRead rfl rfl)).charge _ _

protected theorem Follows.storeRegAt (h : Follows R A s s') (r : Opnd) {a a' : Word}
    (ha : Lockstep A s s' → a = a') : Follows R ∅ (storeRegAt r a s) (storeRegAt r a' s') :=
  (h.storeByte ha (·.readReg_eq _)).charge _ _

protected theorem Follows.loadHLSpImm (h : Follows R R s s') : Follows R R (loadHLSpImm s) (loadHLSpImm s') := by
  have out (l : Lockstep R (fetch8 s).2 (fetch8 s').2) :
      ldhlOf s.cfg.ldhlSigned (fetch8 s).2.sp (fetch8 s).1 =
      ldhlOf s'.cfg.ldhlSigned (fetch8 s').2.sp (fetch8 s').1 := by
    have cfg : s.cfg = s'.cfg := l.cpuAgree.cfg
    have n : (fetch8 s).1 = (fetch8 s').1 := l.byteRead rfl rfl
    rw [cfg, l.cpuAgree.sp, n]
  exact (h.fetch8.update writeLdhlOut_busBlind out).charge 3 12

/-- Both bytes read are in the events. -/
protected theorem Follows.loadPairImm (h : Follows R R s s') (p : MainPair) :
    Follows R R (loadPairImm p s) (loadPairImm p s') := by
  have reads := (h.readByte (·.cpuAgree.pc)).readByte fun l => congrArg (· + 1#16) l.cpuAgree.pc
  refine ((reads.advancePc 2#16).update
    (op := fun x : LdrrOrder × Byte × Byte => writePairBytes x.1 (mainPair p) x.2.1 x.2.2)
    (fun x => writePairBytes_busBlind x.1 (mainPair p) x.2.1 x.2.2)
    (v := (s.cfg.ldrrOrder, _, _)) (v' := (s'.cfg.ldrrOrder, _, _)) fun l => ?_).charge 3 12
  have order : s.cfg.ldrrOrder = s'.cfg.ldrrOrder := congrArg Config.ldrrOrder l.cpuAgree.cfg
  have before : (memRead1 s.pc s).2.events = (memRead1 s'.pc s').2.events :=
    List.append_inj_left' l.events_eq.symm rfl
  have first : (memRead1 s.pc s).1 = (memRead1 s'.pc s').1 := value_eq_of_append_read1 before
  exact Prod.ext order (Prod.ext first (l.byteRead rfl rfl))

protected theorem Follows.pushByte (h : Follows R A s s') (v : Byte) : Follows R ∅ (pushByte v s) (pushByte v s') :=
  (h.setSp fun l => congrArg (· - 1#16) l.cpuAgree.sp).storeByte (·.cpuAgree.sp) fun _ => rfl

protected theorem Follows.popByte (h : Follows R R s s') : Follows R R (popByte s).2 (popByte s').2 :=
  (h.readByte (·.cpuAgree.sp)).setSp fun l => congrArg (· + 1#16) l.cpuAgree.sp

protected theorem Follows.popPair (h : Follows R R s s') (p : Pair) : Follows R R (popPair p s) (popPair p s') :=
  have low := h.popByte.writeReg (pairLo p) (·.byteRead rfl rfl)
  (low.popByte.writeReg (pairHi p) (·.byteRead rfl rfl)).charge 3 12

/-- The operand has been read alike, so A, the carry-in and the operand agree and the function gives the same. -/
protected theorem Follows.aluInstr (h : Follows R R s s') (op : AluOp) (src : AluSrc) :
    Follows R R (aluInstr op src s) (aluInstr op src s') := by
  have operand : Follows R R (aluOperand src s).2.2 (aluOperand src s').2.2 := by
    cases src with
    | reg => exact h
    | atHL => exact h.readByte (·.readPair_eq .HL)
    | imm => exact h.fetch8
  have value (l : Lockstep R (aluOperand src s).2.2 (aluOperand src s').2.2) :
      (aluOperand src s).1 = (aluOperand src s').1 := by
    cases src with
    | reg r => exact l.readReg_eq (opndReg r)
    | atHL => exact l.byteRead rfl rfl
    | imm => exact l.byteRead rfl rfl
  have out (l : Lockstep R (aluOperand src s).2.2 (aluOperand src s').2.2) :
      aluFun op (readReg .A (aluOperand src s).2.2) (aluOperand src s).1 (testFlag .C (aluOperand src s).2.2) =
      aluFun op (readReg .A (aluOperand src s').2.2) (aluOperand src s').1 (testFlag .C (aluOperand src s').2.2) := by
    rw [value l, l.readReg_eq, l.testFlag_eq]
  have cost : (aluOperand src s').2.1 = (aluOperand src s).2.1 := by cases src <;> rfl
  rw [aluInstr, aluInstr, cost]
  exact (operand.update writeAluOut_busBlind out).charge _ _

/-! #### Every form -/

/-- Two runs of a form from states in lockstep stay so if the bytes the first run reads are answered alike (R217). -/
theorem Lockstep.runForm_follows (l : Lockstep R s s') (f : Form) :
    ∃ A, Follows R A (runForm f s) (runForm f s') := by
  have h : Follows R R s s' := fun _ => l
  have cfg : s'.cfg = s.cfg := l.cpuAgree.cfg.symm
  cases f
  case ldRegReg => exact ⟨R, (h.writeReg _ (·.readReg_eq _)).charge _ _⟩
  case ldRegImm => exact ⟨R, (h.fetch8.writeReg _ (·.byteRead rfl rfl)).charge _ _⟩
  case ldRegAtHL => exact ⟨R, h.loadRegAt _ (·.readPair_eq .HL)⟩
  case ldAAtBC => exact ⟨R, h.loadRegAt _ (·.readPair_eq .BC)⟩
  case ldAAtDE => exact ⟨R, h.loadRegAt _ (·.readPair_eq .DE)⟩
  case ldAHighC => exact ⟨R, h.loadRegAt _ fun l => congrArg highPage (l.readReg_eq .C)⟩
  case ldAtHLReg => exact ⟨∅, h.storeRegAt _ (·.readPair_eq .HL)⟩
  case ldAtBCA => exact ⟨∅, h.storeRegAt _ (·.readPair_eq .BC)⟩
  case ldAtDEA => exact ⟨∅, h.storeRegAt _ (·.readPair_eq .DE)⟩
  case ldHighCA => exact ⟨∅, h.storeRegAt _ fun l => congrArg highPage (l.readReg_eq .C)⟩
  case ldAtHLImm => exact ⟨∅, (h.fetch8.storeByte (·.readPair_eq .HL) (·.byteRead rfl rfl)).charge _ _⟩
  case ldAAbs =>
    exact ⟨R, ((h.fetch16.readByte (·.wordRead rfl rfl)).writeReg _ (·.byteRead rfl rfl)).charge _ _⟩
  case ldAbsA => exact ⟨∅, (h.fetch16.storeByte (·.wordRead rfl rfl) (·.readReg_eq .A)).charge _ _⟩
  case ldiAtHLA => exact ⟨∅, (h.storeByte (·.readPair_eq .HL) (·.readReg_eq .A)).hlInc.charge _ _⟩
  case lddAtHLA => exact ⟨∅, (h.storeByte (·.readPair_eq .HL) (·.readReg_eq .A)).hlDec.charge _ _⟩
  case ldiAAtHL =>
    exact ⟨R, ((h.readByte (·.readPair_eq .HL)).writeReg _ (·.byteRead rfl rfl)).hlInc.charge _ _⟩
  case lddAAtHL =>
    exact ⟨R, ((h.readByte (·.readPair_eq .HL)).writeReg _ (·.byteRead rfl rfl)).hlDec.charge _ _⟩
  case ldhAtNA =>
    simp only [runForm, storeAHigh, cfg]
    cases s.cfg.ldhEa
    · exact ⟨∅, ((h.storeByte (·.pcPageAddr_eq) (·.readReg_eq .A)).advancePc _).charge _ _⟩
    · have store := h.fetch8.storeByte (fun l => congrArg highPage (l.byteRead rfl rfl)) (·.readReg_eq .A)
      exact ⟨∅, store.charge _ _⟩
  case ldhAAtN =>
    simp only [runForm, loadAHigh, cfg]
    cases s.cfg.ldhEa
    · have read := h.readByte (·.pcPageAddr_eq)
      exact ⟨R, ((read.writeReg _ (·.byteRead rfl rfl)).advancePc _).charge _ _⟩
    · have read := h.fetch8.readByte fun l => congrArg highPage (l.byteRead rfl rfl)
      exact ⟨R, (read.writeReg _ (·.byteRead rfl rfl)).charge _ _⟩
  case ldPairImm p => exact ⟨R, h.loadPairImm p⟩
  case ldSpImm => exact ⟨R, (h.fetch16.setSp (·.wordRead rfl rfl)).charge _ _⟩
  case ldSpHL => exact ⟨R, (h.setSp (·.readPair_eq .HL)).charge _ _⟩
  case ldAbsSp => exact ⟨∅, (h.fetch16.storeWord (·.wordRead rfl rfl) (·.cpuAgree.sp)).charge _ _⟩
  case ldhlSp => exact ⟨R, h.loadHLSpImm⟩
  case push p =>
    simp only [runForm, pushPair, cfg, ← l.readReg_eq]
    exact ⟨∅, ((h.pushByte _).pushByte _).charge _ _⟩
  case pop p => exact ⟨R, h.popPair (mainPair p)⟩
  case popAF => exact ⟨R, h.popPair .AF⟩
  case alu op src => exact ⟨R, h.aluInstr op src⟩
  case nop | halt | di | ei => exact ⟨R, h.charge 1 4⟩

end

/-! ### Steps (R217) -/

/-- Two CPUs that agree and have fetched the same opcode are in lockstep after the fetch. -/
theorem fetched_lockstep {R : Set Word} {s s' : State} (cpu : CpuAgree s s')
    (opcode : busByte s.pc s = busByte s.pc s') (ram : s.cfg.bus = .ram → ∀ a ∈ R, ramByte s a = ramByte s' a)
    (free : s.cfg.bus = .free → s.busReads = s'.busReads) : Lockstep R (fetched s) (fetched s') where
  same := by
    obtain ⟨regs, pc, sp, clk, last, cfg, stopped⟩ := cpu
    rw [fetched, fetched, ← pc, ← opcode]
    exact State.ext (regs .A) (regs .B) (regs .C) (regs .D) (regs .E) (regs .H) (regs .L) (regs .F) rfl sp clk last
      rfl cfg rfl rfl rfl stopped
  ram := ram
  free hb := congrArg (· + 1) (free hb)

/-- If a step answers a next state, so does the step of a CPU that agrees and whose bus answers alike what the first
step reads, and the two next states agree. -/
theorem next_agree {R : Set Word} {s s' t : State} (cpu : CpuAgree s s')
    (opcode : busByte s.pc s = busByte s.pc s') (ram : s.cfg.bus = .ram → ∀ a ∈ R, ramByte s a = ramByte s' a)
    (free : s.cfg.bus = .free → s.busReads = s'.busReads) (h : step s = .next t)
    (reads : ∀ ev ∈ t.events, ∀ a ∈ ev.readAddrs, a ∈ R) :
    ∃ t', step s' = .next t' ∧ CpuAgree t t' ∧ t'.events = t.events ∧ t'.cost = t.cost := by
  obtain ⟨running, f, entry, rfl⟩ := step_next h
  obtain ⟨_, follows⟩ := (fetched_lockstep cpu opcode ram free).runForm_follows f
  have running' : s'.stopped = none := cpu.stopped ▸ running
  have form' : decodeOpcode (busByte s'.pc s') = f.instr := by rw [← cpu.pc, ← opcode, instr_of_entry entry]
  have l := follows.map settled_busBlind reads
  exact ⟨_, step_of_form running' form', l.cpuAgree, l.events_eq, l.cost_eq⟩

theorem faulted_agree {s s' : State} (cpu : CpuAgree s s') (mark : FatalMark) :
    CpuAgree { fetched s with stopped := some mark } { fetched s' with stopped := some mark } where
  regs r := by
    have reg := cpu.regs r
    cases r <;> exact reg
  pc := congrArg (· + 1#16) cpu.pc
  sp := cpu.sp
  clk := cpu.clk
  last := cpu.last
  cfg := cpu.cfg
  stopped := rfl

/-- The mark and the state a fault leaves depend on the CPU state and the byte fetched alone. -/
theorem fault_agree {s s' left : State} {mark : FatalMark} (cpu : CpuAgree s s')
    (opcode : busByte s.pc s = busByte s.pc s') (h : step s = .fault (.fatal mark left)) :
    ∃ left', step s' = .fault (.fatal mark left') ∧ CpuAgree left left' := by
  obtain ⟨old, stopped⟩ | ⟨running, k, fatal⟩ | ⟨running, f, form⟩ := state_cases s
  · cases (step_of_stopped stopped).symm.trans h
    exact ⟨s', step_of_stopped (cpu.stopped ▸ stopped), cpu⟩
  · cases (step_of_fatalByte running fatal).symm.trans h
    have running' : s'.stopped = none := cpu.stopped ▸ running
    have fatal' : busByte s'.pc s' ∈ fatalBytes k := by rwa [← cpu.pc, ← opcode]
    rw [step_of_fatalByte running' fatal', ← cpu.pc, ← opcode]
    exact ⟨_, rfl, faulted_agree cpu _⟩
  · cases (step_of_form running form).symm.trans h

/-- The opcode read is a step's first event (R211). -/
theorem opcodeRead_mem_events {s t : State} (h : step s = .next t) : .read1 s.pc (busByte s.pc s) ∈ t.events := by
  obtain ⟨-, f, -, rfl⟩ := step_next h
  exact List.mem_of_mem_head? (runForm_events_head f (fetched s) _ rfl)

/-- Settles O55: the opcode is among the bytes read, so both steps run the same form or raise the same fault. The reads
are answered alike on the RAM bus by the bytes' agreement, and on the free bus by their numbers. -/
theorem stepDependsOnlyOnWhatItReads : Obligations.StepDependsOnlyOnWhatItReads := by
  refine ⟨fun s s' t cpu ram h agree => ?_, fun s s' cpu free reads => ?_, fun s s' left mark cpu h opcode => ?_⟩
  · have byte : ramByte s s.pc = ramByte s' s.pc :=
      agree _ (opcodeRead_mem_events h) s.pc (List.mem_singleton_self s.pc)
    have opcode : busByte s.pc s = busByte s.pc s' := by
      rw [busByte_eq_ramByte ram, busByte_eq_ramByte (cpu.cfg ▸ ram), byte]
    exact next_agree (R := {a | ramByte s a = ramByte s' a}) cpu opcode (fun _ _ same => same)
      (fun free => nomatch ram.symm.trans free) h agree
  · have opcode : busByte s.pc s = busByte s.pc s' := by
      simp only [busByte, ← cpu.cfg, free, reads]
    obtain ⟨t, next⟩ | ⟨mark, left, fault⟩ := (stepAnswersNextOrFatal s).1
    · obtain ⟨t', next', agree⟩ := next_agree (R := Set.univ) cpu opcode
        (fun ram => nomatch ram.symm.trans free) (fun _ => reads) next fun _ _ a _ => Set.mem_univ a
      exact .inl ⟨t, t', next, next', agree⟩
    · obtain ⟨left', fault', agree⟩ := fault_agree cpu opcode fault
      exact .inr ⟨mark, left, left', fault, fault', agree⟩
  · exact fault_agree cpu opcode h

end Sys2Proof.Proofs.Determinism
end

section
/-! Exceptions and runs: the fatal fault and what it leaves, the instructions that raise nothing, runs up to their
first fault, and the host's write between steps (60_exceptions.md). -/

namespace Sys2Proof.Proofs.Exceptions

open Sys2Proof Sys2Proof.Machine Sys2Proof.Proofs.Dispatcher

/-! ### The outcome of an instruction (R231, R232, R233) -/

/-- Settles O41: a listed byte's table entry is fatal, and `exec` is the outcome of the table entry. -/
theorem fatalOpcodesRaiseTheFatalFault : Obligations.FatalOpcodesRaiseTheFatalFault := by
  intro k op fatal s
  rw [exec_eq_runEntry, entry_of_fatalBytes fatal]
  rfl

/-- Settles O43: an implemented instruction is its form's, whose operation is a total function of the state. -/
theorem implementedInstructionsComplete : Obligations.ImplementedInstructionsComplete := by
  intro i f impl s
  obtain ⟨stopped, cfg, clk, -, last⟩ := runForm_keeps f s
  exact ⟨runForm f s, instr_of_entry impl ▸ exec_instr f s, stopped, cfg, clk, last⟩

/-! ### The state a fault leaves (R231; log 5) -/

/-- A step that faults leaves its mark standing: the mark it found, or the one it raised. -/
theorem stopped_of_step_fault {s left : State} {mark : FatalMark} (h : step s = .fault (.fatal mark left)) :
    left.stopped = some mark := by
  obtain ⟨old, stopped⟩ | ⟨running, k, fatal⟩ | ⟨running, f, form⟩ := state_cases s
  · rw [step_of_stopped stopped] at h
    cases h
    exact stopped
  · rw [step_of_fatalByte running fatal] at h
    cases h
    rfl
  · rw [step_of_form running form] at h
    cases h

/-- Settles O42: the fetch and the raise are all such a step does, and the mark it leaves stops the next step. -/
theorem fatalStepLeavesTheFetchedState : Obligations.FatalStepLeavesTheFetchedState :=
  ⟨fun _ _ running fatal => step_of_fatalByte running fatal, fun _ _ _ h =>
    ⟨stopped_of_step_fault h, step_of_stopped (stopped_of_step_fault h)⟩⟩

/-! ### Runs of any machine (R248) -/

section
variable {M : Host.Core} {n : Nat} {s : M.State}

theorem run_succ_eq_fault_iff {r : M.Fault} :
    M.run (n + 1) s = .fault r ↔ M.step s = .fault r ∨ ∃ s', M.step s = .next s' ∧ M.run n s' = .fault r := by
  rw [Host.Core.run]
  cases M.step s <;> simp

theorem run_succ_eq_next_iff {t : M.State} :
    M.run (n + 1) s = .next t ↔ ∃ s', M.step s = .next s' ∧ M.run n s' = .next t := by
  rw [Host.Core.run]
  cases M.step s <;> simp

/-- A run that has faulted takes no further step. -/
theorem run_add_of_fault (k : Nat) {r : M.Fault} (h : M.run n s = .fault r) : M.run (n + k) s = .fault r := by
  induction n generalizing s with
  | zero => cases h
  | succ n ih =>
    rw [Nat.add_right_comm, run_succ_eq_fault_iff]
    exact (run_succ_eq_fault_iff.mp h).imp_right fun ⟨s', next, later⟩ => ⟨s', next, ih later⟩

/-- What every step keeps, every run keeps. -/
theorem run_keeps {P : M.State → Prop} (keeps : ∀ s t, P s → M.step s = .next t → P t) {t : M.State} (hs : P s)
    (h : M.run n s = .next t) : P t := by
  induction n generalizing s with
  | zero =>
    cases h
    exact hs
  | succ n ih =>
    obtain ⟨s', next, later⟩ := run_succ_eq_next_iff.mp h
    exact ih (keeps s s' hs next) later

/-- A run that faults ends with a step that does. -/
theorem exists_step_fault_of_run {r : M.Fault} (h : M.run n s = .fault r) : ∃ last, M.step last = .fault r := by
  induction n generalizing s with
  | zero => cases h
  | succ n ih =>
    obtain fault | ⟨s', -, later⟩ := run_succ_eq_fault_iff.mp h
    · exact ⟨s, fault⟩
    · exact ih later

end

/-! ### Runs of this machine (R248, R231; log 5) -/

/-- Settles O50: a fault ends a run, O48 carries the invariant along it, and the fault is that of its last step. -/
theorem runEndsAtItsFirstFault : Obligations.RunEndsAtItsFirstFault := by
  refine ⟨fun _ k _ _ h => run_add_of_fault k h, fun _ _ _ inv h => run_keeps (M := core) stepKeepsTheInvariant inv h,
    fun _ _ _ _ h => ?_⟩
  obtain ⟨last, fault⟩ := exists_step_fault_of_run h
  exact stopped_of_step_fault fault

/-! ### The host's write between steps (R246, R60) -/

theorem hostPoke_cpuAgree (a : Word) (v : Byte) (s : State) : CpuAgree s (hostPoke a v s) where
  regs r := (readReg_hostPoke r a v s).symm
  pc := rfl
  sp := rfl
  clk := rfl
  last := rfl
  cfg := rfl
  stopped := rfl

/-- Settles O57: the write is a memory write and nothing else, so memory's laws say the rest. -/
theorem hostWriteChangesOneByte : Obligations.HostWriteChangesOneByte := fun s a _ v memWf =>
  ⟨hostPoke_cpuAgree a v s, rfl, Memory.write_word_wf a v memWf, Memory.read_write_word memWf⟩

end Sys2Proof.Proofs.Exceptions
end

section
/-! Reset and hazards: the clock's wrap (70_reset_and_hazards.md). -/

namespace Sys2Proof.Proofs.Hazards

open Sys2Proof Sys2Proof.Machine Sys2Proof.Proofs.Dispatcher

/-- A NOP's step adds (1, 4) to the clock, each counter modulo 2^K (R30, R200, R214). -/
theorem exists_step_clk_of_nop {s : State} (running : s.stopped = none)
    (nop : decodeOpcode (busByte s.pc s) = .nop) :
    ∃ t, step s = .next t ∧ t.clk = counters s (s.clk.m + 1) (s.clk.t + 4) := by
  obtain ⟨t, next, -, -, -, clk, -⟩ := stepMeetsTheAdvanceAndCostTable s .nop running nop
  exact ⟨t, next, clk⟩

/-- Settles O51: a NOP adds (1, 4) modulo 2^K, which takes both counters to 2^16 and so past K = 16 bits alone. -/
theorem clockWrapsAtItsWidth : Obligations.ClockWrapsAtItsWidth := by
  intro s running nop start
  obtain ⟨t, next, clk⟩ := exists_step_clk_of_nop running nop
  rw [start] at clk
  refine ⟨fun narrow => ⟨t, next, ?_⟩, fun wide => ⟨t, next, ?_⟩⟩
  · rw [clk, counters, narrow]
    decide
  · rw [clk, counters, wide]
    decide

end Sys2Proof.Proofs.Hazards
end
